-- ==== Sys2Proof/Word.lean ====
section
/-! DEFINITION. The data words of the block: bytes, 16-bit words, socket indices, and the small fixed groups
of like things (four sockets, four address octets, six MAC octets). -/

namespace Sys2Proof

/-- One byte on the data bus (spec/00_scope.md R9: data bus width 8). -/
abbrev Byte := BitVec 8

/-- A 16-bit value: an internal or host address, a ring pointer, a port, the indirect address register (R9). -/
abbrev Word := BitVec 16

/-- A socket index 0..3 (R9: `NSOCK` = 4). -/
abbrev SockId := Fin 4

/-- The two address bits that hold a socket index (spec/30_encoding.md R90, R91). -/
abbrev SockId.bits (n : SockId) : BitVec 2 := BitVec.ofFin n

/-- Four like things, numbered 0 to 3: the sockets of the block, the octets of an IP address. -/
structure Quad (α : Type) where
  e0 : α
  e1 : α
  e2 : α
  e3 : α
deriving DecidableEq, Repr, Inhabited

/-- The member with a given number. -/
def Quad.get {α : Type} (q : Quad α) (n : Fin 4) : α :=
  match n with
  | 0 => q.e0
  | 1 => q.e1
  | 2 => q.e2
  | 3 => q.e3

/-- The group with one member replaced. -/
def Quad.set {α : Type} (q : Quad α) (n : Fin 4) (x : α) : Quad α :=
  match n with
  | 0 => { q with e0 := x }
  | 1 => { q with e1 := x }
  | 2 => { q with e2 := x }
  | 3 => { q with e3 := x }

/-- An IP address or mask: four octets in address order, `e0` the first octet (spec/20_memory.md R66). -/
abbrev Ip4 := Quad Byte

/-- The six octets of the source hardware address `SHAR0`..`SHAR5` (spec/10_state.md R22). -/
structure Mac where
  b0 : Byte
  b1 : Byte
  b2 : Byte
  b3 : Byte
  b4 : Byte
  b5 : Byte
deriving DecidableEq, Repr, Inhabited

end Sys2Proof
end

