-- ==== Sys2Proof/Config.lean ====
section
/-! DEFINITION. What an implementation or the outside world fixes: the open parameters of spec/00_scope.md R10,
the network requests and answers of R12, and the free values (opaque: nothing can evaluate them or prove a value
of one of them). -/

namespace Sys2Proof

/-- `IND_HOST_DECODE` of R10 and R112: what an indirect-mode host address of 4 or more selects. -/
inductive IndHostDecode where
  /-- `LOW2`: the low two address bits select the shim register, for every address. -/
  | low2
  /-- `DIRECT_ABOVE_3`: an address of 4 or more is decoded as in direct mode. -/
  | directAbove3
deriving DecidableEq, Repr, Inhabited

/-- `UDP_SHORT_SEND` of R10 and R253: what a short or failed datagram send does to `writePending`. -/
inductive UdpShortSend where
  /-- `RETAIN`: still pending, tried again at the next writable tick. -/
  | retain
  /-- `DROP_PENDING`: no longer pending; the datagram stays queued until a later SEND. -/
  | dropPending
deriving DecidableEq, Repr, Inhabited

/-- The open parameters of R10 that are choices of an implementation. The other open parameters
(`UNMAPPED_READ`, `BUF_INIT`, `NET`) are the free values below. No step changes them (log 6). -/
structure Params where
  indHostDecode : IndHostDecode
  /-- `SN_MR_ACCEPT`: the bytes `Sn_MR` stores as written (R163). -/
  snMrAccept : List Byte
  acceptSetsCon : Bool
  acceptUpdatesDest : Bool
  udpShortSend : UdpShortSend
deriving DecidableEq, Repr, Inhabited

/-- The default column of R10. -/
def Config.defaultParams : Params where
  indHostDecode := .low2
  snMrAccept := [0x00#8, 0x01#8, 0x02#8]
  acceptSetsCon := false
  acceptUpdatesDest := false
  udpShortSend := .dropPending

/-- A descriptor token (R12 `Fd`): an abstract name drawn by the oracle, here a natural number (log 3). -/
abbrev Fd := Nat

/-- The two host socket kinds of R12. -/
inductive SockKind where
  | stream
  | dgram
deriving DecidableEq, Repr, Inhabited

/-- One request to the network oracle (R12), with its arguments. The descriptor argument is the socket's `fd`
field as it stands; it is absent only in states no run reaches (R34, log 18). -/
inductive NetRequest where
  | socket (kind : SockKind)
  | bind (fd : Option Fd) (ip : Ip4) (port : Word)
  | listen (fd : Option Fd)
  | connect (fd : Option Fd) (ip : Ip4) (port : Word)
  | connectAgain (fd : Option Fd) (ip : Ip4) (port : Word)
  | ready (fd : Option Fd) (wantR wantW : Bool)
  | accept (fd : Option Fd)
  | recv (fd : Option Fd) (max : Nat)
  | recvFrom (fd : Option Fd) (max : Nat)
  | send (fd : Option Fd) (bytes : List Byte)
  | sendTo (fd : Option Fd) (bytes : List Byte) (ip : Ip4) (port : Word)
  | close (fd : Fd)
deriving DecidableEq, Repr

/-- One answer of the network oracle (R12), of any kind. Which answers a request admits, and what an answer of
another kind counts as, is said by the request operations of Machine/Ops.lean (log 2). -/
inductive NetAnswer where
  | ok
  /-- `NetSocket`'s `Ok(fd)`. -/
  | okFd (fd : Fd)
  | inProgress
  | fail
  | err
  | ready (r w : Bool)
  /-- `NetAccept`'s `Ok(fd2, peerIP, peerPort)`. -/
  | accepted (fd : Fd) (peerIp : Ip4) (peerPort : Word)
  | data (bytes : List Byte)
  | eof
  | dgram (bytes : List Byte) (srcIp : Ip4) (srcPort : Word)
  | sent (k : Nat)
deriving DecidableEq, Repr, Inhabited

/-- FREE VALUE (log 1). `NET` of R10: the answer to a request, once the answers already fixed in the state are
used up. It may depend on the whole history of requests, most recent first (R12). -/
opaque Config.netAnswer : List NetRequest → NetRequest → NetAnswer

/-- FREE VALUE (log 5). `UNMAPPED_READ` of R10: what the `k`-th read of an unmapped location answers (R133). -/
opaque Config.unmappedRead : Nat → Word → Byte

/-- FREE VALUE (log 4). `BUF_INIT` of R10: what a buffer byte holds after a power-up until it is written (R301),
for the number of the power-up and the byte's internal address. -/
opaque Config.bufInit : Nat → Nat → Byte

end Sys2Proof
end

