-- ==== Sys2Proof/Syntax.lean ====
section
/-! DEFINITION. The transactions of the block as syntax: one constructor per row of spec/opcode_table.json, in the
table's order. The HOST rows are what the bus master issues (spec/40_bus_interface.md), the INT rows the internal
accesses a host transaction resolves to (spec/30_encoding.md R87), the CTRL rows what the embedder issues.

Operands: `h` a host address; `hi` the host address bits 15:2 that the shim selector ignores (R112); `n` the socket;
`o` the low address bits a row leaves free (a buffer offset, or the place in an unmapped block); `v` the byte written. -/

namespace Sys2Proof

/-- One transaction or internal access (spec/30_encoding.md R86, R87, R110). -/
inductive Instr where
  /-- `HRD_DIRECT`: `RD h` in direct mode (R111). -/
  | hrdDirect (h : Word)
  /-- `HWR_DIRECT`: `WR h, v` in direct mode (R111). -/
  | hwrDirect (h : Word) (v : Byte)
  /-- `HRD_MR_IND`: indirect-mode read of `MR` (R114). -/
  | hrdMrInd (hi : BitVec 14)
  /-- `HWR_MR_IND`: indirect-mode write of `MR` (R115). -/
  | hwrMrInd (hi : BitVec 14) (v : Byte)
  /-- `HRD_IDM_AR0`: read of the high half of the indirect address register (R116). -/
  | hrdIdmAr0 (hi : BitVec 14)
  /-- `HWR_IDM_AR0`: write of the high half of the indirect address register (R116). -/
  | hwrIdmAr0 (hi : BitVec 14) (v : Byte)
  /-- `HRD_IDM_AR1`: read of the low half of the indirect address register (R117). -/
  | hrdIdmAr1 (hi : BitVec 14)
  /-- `HWR_IDM_AR1`: write of the low half of the indirect address register (R117). -/
  | hwrIdmAr1 (hi : BitVec 14) (v : Byte)
  /-- `HRD_IDM_DR`: read through the data register (R118, R119). -/
  | hrdIdmDr (hi : BitVec 14)
  /-- `HWR_IDM_DR`: write through the data register (R118, R119). -/
  | hwrIdmDr (hi : BitVec 14) (v : Byte)
  /-- `RD_MR`: read of internal 0x0000 (R135). -/
  | rdMr
  /-- `WR_MR`: write of internal 0x0000 (R135). -/
  | wrMr (v : Byte)
  /-- `RD_GWR0`: read of internal 0x0001 (R136). -/
  | rdGwr0
  /-- `WR_GWR0`: write of internal 0x0001 (R136). -/
  | wrGwr0 (v : Byte)
  /-- `RD_GWR1`: read of internal 0x0002 (R136). -/
  | rdGwr1
  /-- `WR_GWR1`: write of internal 0x0002 (R136). -/
  | wrGwr1 (v : Byte)
  /-- `RD_GWR2`: read of internal 0x0003 (R136). -/
  | rdGwr2
  /-- `WR_GWR2`: write of internal 0x0003 (R136). -/
  | wrGwr2 (v : Byte)
  /-- `RD_GWR3`: read of internal 0x0004 (R136). -/
  | rdGwr3
  /-- `WR_GWR3`: write of internal 0x0004 (R136). -/
  | wrGwr3 (v : Byte)
  /-- `RD_SUBR0`: read of internal 0x0005 (R136). -/
  | rdSubr0
  /-- `WR_SUBR0`: write of internal 0x0005 (R136). -/
  | wrSubr0 (v : Byte)
  /-- `RD_SUBR1`: read of internal 0x0006 (R136). -/
  | rdSubr1
  /-- `WR_SUBR1`: write of internal 0x0006 (R136). -/
  | wrSubr1 (v : Byte)
  /-- `RD_SUBR2`: read of internal 0x0007 (R136). -/
  | rdSubr2
  /-- `WR_SUBR2`: write of internal 0x0007 (R136). -/
  | wrSubr2 (v : Byte)
  /-- `RD_SUBR3`: read of internal 0x0008 (R136). -/
  | rdSubr3
  /-- `WR_SUBR3`: write of internal 0x0008 (R136). -/
  | wrSubr3 (v : Byte)
  /-- `RD_SHAR0`: read of internal 0x0009 (R136). -/
  | rdShar0
  /-- `WR_SHAR0`: write of internal 0x0009 (R136). -/
  | wrShar0 (v : Byte)
  /-- `RD_SHAR1`: read of internal 0x000a (R136). -/
  | rdShar1
  /-- `WR_SHAR1`: write of internal 0x000a (R136). -/
  | wrShar1 (v : Byte)
  /-- `RD_SHAR2`: read of internal 0x000b (R136). -/
  | rdShar2
  /-- `WR_SHAR2`: write of internal 0x000b (R136). -/
  | wrShar2 (v : Byte)
  /-- `RD_SHAR3`: read of internal 0x000c (R136). -/
  | rdShar3
  /-- `WR_SHAR3`: write of internal 0x000c (R136). -/
  | wrShar3 (v : Byte)
  /-- `RD_SHAR4`: read of internal 0x000d (R136). -/
  | rdShar4
  /-- `WR_SHAR4`: write of internal 0x000d (R136). -/
  | wrShar4 (v : Byte)
  /-- `RD_SHAR5`: read of internal 0x000e (R136). -/
  | rdShar5
  /-- `WR_SHAR5`: write of internal 0x000e (R136). -/
  | wrShar5 (v : Byte)
  /-- `RD_SIPR0`: read of internal 0x000f (R136). -/
  | rdSipr0
  /-- `WR_SIPR0`: write of internal 0x000f (R136). -/
  | wrSipr0 (v : Byte)
  /-- `RD_SIPR1`: read of internal 0x0010 (R136). -/
  | rdSipr1
  /-- `WR_SIPR1`: write of internal 0x0010 (R136). -/
  | wrSipr1 (v : Byte)
  /-- `RD_SIPR2`: read of internal 0x0011 (R136). -/
  | rdSipr2
  /-- `WR_SIPR2`: write of internal 0x0011 (R136). -/
  | wrSipr2 (v : Byte)
  /-- `RD_SIPR3`: read of internal 0x0012 (R136). -/
  | rdSipr3
  /-- `WR_SIPR3`: write of internal 0x0012 (R136). -/
  | wrSipr3 (v : Byte)
  /-- `RD_IR`: read of internal 0x0015 (R137). -/
  | rdIr
  /-- `WR_IR`: write of internal 0x0015 (R137). -/
  | wrIr (v : Byte)
  /-- `RD_IMR`: read of internal 0x0016 (R138). -/
  | rdImr
  /-- `WR_IMR`: write of internal 0x0016 (R138). -/
  | wrImr (v : Byte)
  /-- `RD_RMSR`: read of internal 0x001a (R139). -/
  | rdRmsr
  /-- `WR_RMSR`: write of internal 0x001a (R139). -/
  | wrRmsr (v : Byte)
  /-- `RD_TMSR`: read of internal 0x001b (R139). -/
  | rdTmsr
  /-- `WR_TMSR`: write of internal 0x001b (R139). -/
  | wrTmsr (v : Byte)
  /-- `RD_Sn_MR`: read of internal 0x0400 + n*0x100 (R140). -/
  | rdSnMr (n : SockId)
  /-- `WR_Sn_MR`: write of internal 0x0400 + n*0x100 (R163). -/
  | wrSnMr (n : SockId) (v : Byte)
  /-- `RD_Sn_CR`: read of internal 0x0401 + n*0x100 (R141). -/
  | rdSnCr (n : SockId)
  /-- `RD_Sn_IR`: read of internal 0x0402 + n*0x100 (R142). -/
  | rdSnIr (n : SockId)
  /-- `WR_Sn_IR`: write of internal 0x0402 + n*0x100 (R142). -/
  | wrSnIr (n : SockId) (v : Byte)
  /-- `RD_Sn_SR`: read of internal 0x0403 + n*0x100 (R143). -/
  | rdSnSr (n : SockId)
  /-- `WR_Sn_SR`: write of internal 0x0403 + n*0x100 (R143). -/
  | wrSnSr (n : SockId) (v : Byte)
  /-- `RD_Sn_PORT0`: read of internal 0x0404 + n*0x100 (R144). -/
  | rdSnPort0 (n : SockId)
  /-- `WR_Sn_PORT0`: write of internal 0x0404 + n*0x100 (R165). -/
  | wrSnPort0 (n : SockId) (v : Byte)
  /-- `RD_Sn_PORT1`: read of internal 0x0405 + n*0x100 (R144). -/
  | rdSnPort1 (n : SockId)
  /-- `WR_Sn_PORT1`: write of internal 0x0405 + n*0x100 (R165). -/
  | wrSnPort1 (n : SockId) (v : Byte)
  /-- `RD_Sn_DIPR0`: read of internal 0x040c + n*0x100 (R145). -/
  | rdSnDipr0 (n : SockId)
  /-- `WR_Sn_DIPR0`: write of internal 0x040c + n*0x100 (R145). -/
  | wrSnDipr0 (n : SockId) (v : Byte)
  /-- `RD_Sn_DIPR1`: read of internal 0x040d + n*0x100 (R145). -/
  | rdSnDipr1 (n : SockId)
  /-- `WR_Sn_DIPR1`: write of internal 0x040d + n*0x100 (R145). -/
  | wrSnDipr1 (n : SockId) (v : Byte)
  /-- `RD_Sn_DIPR2`: read of internal 0x040e + n*0x100 (R145). -/
  | rdSnDipr2 (n : SockId)
  /-- `WR_Sn_DIPR2`: write of internal 0x040e + n*0x100 (R145). -/
  | wrSnDipr2 (n : SockId) (v : Byte)
  /-- `RD_Sn_DIPR3`: read of internal 0x040f + n*0x100 (R145). -/
  | rdSnDipr3 (n : SockId)
  /-- `WR_Sn_DIPR3`: write of internal 0x040f + n*0x100 (R145). -/
  | wrSnDipr3 (n : SockId) (v : Byte)
  /-- `RD_Sn_DPORT0`: read of internal 0x0410 + n*0x100 (R145). -/
  | rdSnDport0 (n : SockId)
  /-- `WR_Sn_DPORT0`: write of internal 0x0410 + n*0x100 (R145). -/
  | wrSnDport0 (n : SockId) (v : Byte)
  /-- `RD_Sn_DPORT1`: read of internal 0x0411 + n*0x100 (R145). -/
  | rdSnDport1 (n : SockId)
  /-- `WR_Sn_DPORT1`: write of internal 0x0411 + n*0x100 (R145). -/
  | wrSnDport1 (n : SockId) (v : Byte)
  /-- `RD_Sn_TX_FSR0`: read of internal 0x0420 + n*0x100 (R146). -/
  | rdSnTxFsr0 (n : SockId)
  /-- `WR_Sn_TX_FSR0`: write of internal 0x0420 + n*0x100 (R146). -/
  | wrSnTxFsr0 (n : SockId) (v : Byte)
  /-- `RD_Sn_TX_FSR1`: read of internal 0x0421 + n*0x100 (R146). -/
  | rdSnTxFsr1 (n : SockId)
  /-- `WR_Sn_TX_FSR1`: write of internal 0x0421 + n*0x100 (R146). -/
  | wrSnTxFsr1 (n : SockId) (v : Byte)
  /-- `RD_Sn_TX_RR0`: read of internal 0x0422 + n*0x100 (R146). -/
  | rdSnTxRr0 (n : SockId)
  /-- `WR_Sn_TX_RR0`: write of internal 0x0422 + n*0x100 (R146). -/
  | wrSnTxRr0 (n : SockId) (v : Byte)
  /-- `RD_Sn_TX_RR1`: read of internal 0x0423 + n*0x100 (R146). -/
  | rdSnTxRr1 (n : SockId)
  /-- `WR_Sn_TX_RR1`: write of internal 0x0423 + n*0x100 (R146). -/
  | wrSnTxRr1 (n : SockId) (v : Byte)
  /-- `RD_Sn_TX_WR0`: read of internal 0x0424 + n*0x100 (R147). -/
  | rdSnTxWr0 (n : SockId)
  /-- `WR_Sn_TX_WR0`: write of internal 0x0424 + n*0x100 (R147). -/
  | wrSnTxWr0 (n : SockId) (v : Byte)
  /-- `RD_Sn_TX_WR1`: read of internal 0x0425 + n*0x100 (R147). -/
  | rdSnTxWr1 (n : SockId)
  /-- `WR_Sn_TX_WR1`: write of internal 0x0425 + n*0x100 (R147). -/
  | wrSnTxWr1 (n : SockId) (v : Byte)
  /-- `RD_Sn_RX_RSR0`: read of internal 0x0426 + n*0x100 (R148). -/
  | rdSnRxRsr0 (n : SockId)
  /-- `WR_Sn_RX_RSR0`: write of internal 0x0426 + n*0x100 (R148). -/
  | wrSnRxRsr0 (n : SockId) (v : Byte)
  /-- `RD_Sn_RX_RSR1`: read of internal 0x0427 + n*0x100 (R148). -/
  | rdSnRxRsr1 (n : SockId)
  /-- `WR_Sn_RX_RSR1`: write of internal 0x0427 + n*0x100 (R148). -/
  | wrSnRxRsr1 (n : SockId) (v : Byte)
  /-- `RD_Sn_RX_RD0`: read of internal 0x0428 + n*0x100 (R147). -/
  | rdSnRxRd0 (n : SockId)
  /-- `WR_Sn_RX_RD0`: write of internal 0x0428 + n*0x100 (R147). -/
  | wrSnRxRd0 (n : SockId) (v : Byte)
  /-- `RD_Sn_RX_RD1`: read of internal 0x0429 + n*0x100 (R147). -/
  | rdSnRxRd1 (n : SockId)
  /-- `WR_Sn_RX_RD1`: write of internal 0x0429 + n*0x100 (R147). -/
  | wrSnRxRd1 (n : SockId) (v : Byte)
  /-- `CMD_OPEN`: write of 0x01 to `Sn_CR` (R171). -/
  | cmdOpen (n : SockId)
  /-- `CMD_LISTEN`: write of 0x02 to `Sn_CR` (R174). -/
  | cmdListen (n : SockId)
  /-- `CMD_CONNECT`: write of 0x04 to `Sn_CR` (R177). -/
  | cmdConnect (n : SockId)
  /-- `CMD_DISCON`: write of 0x08 to `Sn_CR` (R182). -/
  | cmdDiscon (n : SockId)
  /-- `CMD_CLOSE`: write of 0x10 to `Sn_CR` (R186). -/
  | cmdClose (n : SockId)
  /-- `CMD_SEND`: write of 0x20 to `Sn_CR` (R194). -/
  | cmdSend (n : SockId)
  /-- `CMD_RECV`: write of 0x40 to `Sn_CR` (R199). -/
  | cmdRecv (n : SockId)
  /-- `CMD_INVALID`: write of a byte that is no command to `Sn_CR` (R169). -/
  | cmdInvalid (n : SockId) (v : Byte)
  /-- `RD_TXBUF`: read of a buffer byte at 0x4000 (R149). -/
  | rdTxbuf (n : SockId) (o : BitVec 11)
  /-- `WR_TXBUF`: write of a buffer byte at 0x4000 (R150). -/
  | wrTxbuf (n : SockId) (o : BitVec 11) (v : Byte)
  /-- `RD_RXBUF`: read of a buffer byte at 0x6000 (R151). -/
  | rdRxbuf (n : SockId) (o : BitVec 11)
  /-- `WR_RXBUF`: write of a buffer byte at 0x6000 (R152). -/
  | wrRxbuf (n : SockId) (o : BitVec 11) (v : Byte)
  /-- `RD_UNMAPPED_00`: read of the unmapped block at 0x0013 (R133). -/
  | rdUnmapped00
  /-- `WR_UNMAPPED_00`: write of the unmapped block at 0x0013 (R134). -/
  | wrUnmapped00 (v : Byte)
  /-- `RD_UNMAPPED_01`: read of the unmapped block at 0x0014 (R133). -/
  | rdUnmapped01
  /-- `WR_UNMAPPED_01`: write of the unmapped block at 0x0014 (R134). -/
  | wrUnmapped01 (v : Byte)
  /-- `RD_UNMAPPED_02`: read of the unmapped block at 0x0017 (R133). -/
  | rdUnmapped02
  /-- `WR_UNMAPPED_02`: write of the unmapped block at 0x0017 (R134). -/
  | wrUnmapped02 (v : Byte)
  /-- `RD_UNMAPPED_03`: read of the unmapped block at 0x0018 (R133). -/
  | rdUnmapped03 (o : BitVec 1)
  /-- `WR_UNMAPPED_03`: write of the unmapped block at 0x0018 (R134). -/
  | wrUnmapped03 (o : BitVec 1) (v : Byte)
  /-- `RD_UNMAPPED_04`: read of the unmapped block at 0x001c (R133). -/
  | rdUnmapped04 (o : BitVec 2)
  /-- `WR_UNMAPPED_04`: write of the unmapped block at 0x001c (R134). -/
  | wrUnmapped04 (o : BitVec 2) (v : Byte)
  /-- `RD_UNMAPPED_05`: read of the unmapped block at 0x0020 (R133). -/
  | rdUnmapped05 (o : BitVec 4)
  /-- `WR_UNMAPPED_05`: write of the unmapped block at 0x0020 (R134). -/
  | wrUnmapped05 (o : BitVec 4) (v : Byte)
  /-- `RD_UNMAPPED_06`: read of the unmapped block at 0x0030 (R133). -/
  | rdUnmapped06 (o : BitVec 4)
  /-- `WR_UNMAPPED_06`: write of the unmapped block at 0x0030 (R134). -/
  | wrUnmapped06 (o : BitVec 4) (v : Byte)
  /-- `RD_UNMAPPED_07`: read of the unmapped block at 0x0040 (R133). -/
  | rdUnmapped07 (o : BitVec 6)
  /-- `WR_UNMAPPED_07`: write of the unmapped block at 0x0040 (R134). -/
  | wrUnmapped07 (o : BitVec 6) (v : Byte)
  /-- `RD_UNMAPPED_08`: read of the unmapped block at 0x0080 (R133). -/
  | rdUnmapped08 (o : BitVec 7)
  /-- `WR_UNMAPPED_08`: write of the unmapped block at 0x0080 (R134). -/
  | wrUnmapped08 (o : BitVec 7) (v : Byte)
  /-- `RD_UNMAPPED_09`: read of the unmapped block at 0x0100 (R133). -/
  | rdUnmapped09 (o : BitVec 8)
  /-- `WR_UNMAPPED_09`: write of the unmapped block at 0x0100 (R134). -/
  | wrUnmapped09 (o : BitVec 8) (v : Byte)
  /-- `RD_UNMAPPED_10`: read of the unmapped block at 0x0200 (R133). -/
  | rdUnmapped10 (o : BitVec 9)
  /-- `WR_UNMAPPED_10`: write of the unmapped block at 0x0200 (R134). -/
  | wrUnmapped10 (o : BitVec 9) (v : Byte)
  /-- `RD_UNMAPPED_11`: read of the unmapped block at 0x0800 (R133). -/
  | rdUnmapped11 (o : BitVec 11)
  /-- `WR_UNMAPPED_11`: write of the unmapped block at 0x0800 (R134). -/
  | wrUnmapped11 (o : BitVec 11) (v : Byte)
  /-- `RD_UNMAPPED_12`: read of the unmapped block at 0x1000 (R133). -/
  | rdUnmapped12 (o : BitVec 12)
  /-- `WR_UNMAPPED_12`: write of the unmapped block at 0x1000 (R134). -/
  | wrUnmapped12 (o : BitVec 12) (v : Byte)
  /-- `RD_UNMAPPED_13`: read of the unmapped block at 0x2000 (R133). -/
  | rdUnmapped13 (o : BitVec 13)
  /-- `WR_UNMAPPED_13`: write of the unmapped block at 0x2000 (R134). -/
  | wrUnmapped13 (o : BitVec 13) (v : Byte)
  /-- `RD_UNMAPPED_14`: read of the unmapped block at 0x8000 (R133). -/
  | rdUnmapped14 (o : BitVec 15)
  /-- `WR_UNMAPPED_14`: write of the unmapped block at 0x8000 (R134). -/
  | wrUnmapped14 (o : BitVec 15) (v : Byte)
  /-- `RD_UNMAPPED_15`: read of the unmapped block at 0x0406 of each socket (R133). -/
  | rdUnmapped15 (n : SockId) (o : BitVec 1)
  /-- `WR_UNMAPPED_15`: write of the unmapped block at 0x0406 of each socket (R134). -/
  | wrUnmapped15 (n : SockId) (o : BitVec 1) (v : Byte)
  /-- `RD_UNMAPPED_16`: read of the unmapped block at 0x0408 of each socket (R133). -/
  | rdUnmapped16 (n : SockId) (o : BitVec 2)
  /-- `WR_UNMAPPED_16`: write of the unmapped block at 0x0408 of each socket (R134). -/
  | wrUnmapped16 (n : SockId) (o : BitVec 2) (v : Byte)
  /-- `RD_UNMAPPED_17`: read of the unmapped block at 0x0412 of each socket (R133). -/
  | rdUnmapped17 (n : SockId) (o : BitVec 1)
  /-- `WR_UNMAPPED_17`: write of the unmapped block at 0x0412 of each socket (R134). -/
  | wrUnmapped17 (n : SockId) (o : BitVec 1) (v : Byte)
  /-- `RD_UNMAPPED_18`: read of the unmapped block at 0x0414 of each socket (R133). -/
  | rdUnmapped18 (n : SockId) (o : BitVec 2)
  /-- `WR_UNMAPPED_18`: write of the unmapped block at 0x0414 of each socket (R134). -/
  | wrUnmapped18 (n : SockId) (o : BitVec 2) (v : Byte)
  /-- `RD_UNMAPPED_19`: read of the unmapped block at 0x0418 of each socket (R133). -/
  | rdUnmapped19 (n : SockId) (o : BitVec 3)
  /-- `WR_UNMAPPED_19`: write of the unmapped block at 0x0418 of each socket (R134). -/
  | wrUnmapped19 (n : SockId) (o : BitVec 3) (v : Byte)
  /-- `RD_UNMAPPED_20`: read of the unmapped block at 0x042a of each socket (R133). -/
  | rdUnmapped20 (n : SockId) (o : BitVec 1)
  /-- `WR_UNMAPPED_20`: write of the unmapped block at 0x042a of each socket (R134). -/
  | wrUnmapped20 (n : SockId) (o : BitVec 1) (v : Byte)
  /-- `RD_UNMAPPED_21`: read of the unmapped block at 0x042c of each socket (R133). -/
  | rdUnmapped21 (n : SockId) (o : BitVec 2)
  /-- `WR_UNMAPPED_21`: write of the unmapped block at 0x042c of each socket (R134). -/
  | wrUnmapped21 (n : SockId) (o : BitVec 2) (v : Byte)
  /-- `RD_UNMAPPED_22`: read of the unmapped block at 0x0430 of each socket (R133). -/
  | rdUnmapped22 (n : SockId) (o : BitVec 4)
  /-- `WR_UNMAPPED_22`: write of the unmapped block at 0x0430 of each socket (R134). -/
  | wrUnmapped22 (n : SockId) (o : BitVec 4) (v : Byte)
  /-- `RD_UNMAPPED_23`: read of the unmapped block at 0x0440 of each socket (R133). -/
  | rdUnmapped23 (n : SockId) (o : BitVec 6)
  /-- `WR_UNMAPPED_23`: write of the unmapped block at 0x0440 of each socket (R134). -/
  | wrUnmapped23 (n : SockId) (o : BitVec 6) (v : Byte)
  /-- `RD_UNMAPPED_24`: read of the unmapped block at 0x0480 of each socket (R133). -/
  | rdUnmapped24 (n : SockId) (o : BitVec 7)
  /-- `WR_UNMAPPED_24`: write of the unmapped block at 0x0480 of each socket (R134). -/
  | wrUnmapped24 (n : SockId) (o : BitVec 7) (v : Byte)
  /-- `TICK`: one multiplexer pass (R241). -/
  | tick
  /-- `RESET`: power-up reset (R301). -/
  | reset
deriving DecidableEq, Repr

end Sys2Proof
end

