-- ==== Sys2Proof/WellFormed.lean ====
section
/-! DEFINITION. Which instruction terms are well formed, and which the bus interface can decode under a given
addressing mode. Operand widths are in the types; what is left is said here. -/

namespace Sys2Proof

/-- The three formats of spec/opcode_table.json (spec/30_encoding.md R87). -/
inductive Level where
  | host
  | internal
  | control
deriving DecidableEq, Repr

/-- The format of an instruction's row. -/
def Instr.level (i : Instr) : Level :=
  match i with
  | .hrdDirect _ | .hwrDirect _ _ | .hrdMrInd _ | .hwrMrInd _ _ | .hrdIdmAr0 _ | .hwrIdmAr0 _ _ | .hrdIdmAr1 _
  | .hwrIdmAr1 _ _ | .hrdIdmDr _ | .hwrIdmDr _ _ => .host
  | .tick | .reset => .control
  | .rdMr | .wrMr _ | .rdGwr0 | .wrGwr0 _ | .rdGwr1 | .wrGwr1 _ | .rdGwr2 | .wrGwr2 _ | .rdGwr3 | .wrGwr3 _
  | .rdSubr0 | .wrSubr0 _ | .rdSubr1 | .wrSubr1 _ | .rdSubr2 | .wrSubr2 _ | .rdSubr3 | .wrSubr3 _ | .rdShar0
  | .wrShar0 _ | .rdShar1 | .wrShar1 _ | .rdShar2 | .wrShar2 _ | .rdShar3 | .wrShar3 _ | .rdShar4 | .wrShar4 _
  | .rdShar5 | .wrShar5 _ | .rdSipr0 | .wrSipr0 _ | .rdSipr1 | .wrSipr1 _ | .rdSipr2 | .wrSipr2 _ | .rdSipr3
  | .wrSipr3 _ | .rdIr | .wrIr _ | .rdImr | .wrImr _ | .rdRmsr | .wrRmsr _ | .rdTmsr | .wrTmsr _ | .rdSnMr _
  | .wrSnMr _ _ | .rdSnCr _ | .rdSnIr _ | .wrSnIr _ _ | .rdSnSr _ | .wrSnSr _ _ | .rdSnPort0 _ | .wrSnPort0 _ _
  | .rdSnPort1 _ | .wrSnPort1 _ _ | .rdSnDipr0 _ | .wrSnDipr0 _ _ | .rdSnDipr1 _ | .wrSnDipr1 _ _ | .rdSnDipr2 _
  | .wrSnDipr2 _ _ | .rdSnDipr3 _ | .wrSnDipr3 _ _ | .rdSnDport0 _ | .wrSnDport0 _ _ | .rdSnDport1 _
  | .wrSnDport1 _ _ | .rdSnTxFsr0 _ | .wrSnTxFsr0 _ _ | .rdSnTxFsr1 _ | .wrSnTxFsr1 _ _ | .rdSnTxRr0 _
  | .wrSnTxRr0 _ _ | .rdSnTxRr1 _ | .wrSnTxRr1 _ _ | .rdSnTxWr0 _ | .wrSnTxWr0 _ _ | .rdSnTxWr1 _ | .wrSnTxWr1 _ _
  | .rdSnRxRsr0 _ | .wrSnRxRsr0 _ _ | .rdSnRxRsr1 _ | .wrSnRxRsr1 _ _ | .rdSnRxRd0 _ | .wrSnRxRd0 _ _ | .rdSnRxRd1 _
  | .wrSnRxRd1 _ _ | .cmdOpen _ | .cmdListen _ | .cmdConnect _ | .cmdDiscon _ | .cmdClose _ | .cmdSend _ | .cmdRecv _
  | .cmdInvalid _ _ | .rdTxbuf _ _ | .wrTxbuf _ _ _ | .rdRxbuf _ _ | .wrRxbuf _ _ _ | .rdUnmapped00 | .wrUnmapped00 _
  | .rdUnmapped01 | .wrUnmapped01 _ | .rdUnmapped02 | .wrUnmapped02 _ | .rdUnmapped03 _ | .wrUnmapped03 _ _
  | .rdUnmapped04 _ | .wrUnmapped04 _ _ | .rdUnmapped05 _ | .wrUnmapped05 _ _ | .rdUnmapped06 _ | .wrUnmapped06 _ _
  | .rdUnmapped07 _ | .wrUnmapped07 _ _ | .rdUnmapped08 _ | .wrUnmapped08 _ _ | .rdUnmapped09 _ | .wrUnmapped09 _ _
  | .rdUnmapped10 _ | .wrUnmapped10 _ _ | .rdUnmapped11 _ | .wrUnmapped11 _ _ | .rdUnmapped12 _ | .wrUnmapped12 _ _
  | .rdUnmapped13 _ | .wrUnmapped13 _ _ | .rdUnmapped14 _ | .wrUnmapped14 _ _ | .rdUnmapped15 _ _
  | .wrUnmapped15 _ _ _ | .rdUnmapped16 _ _ | .wrUnmapped16 _ _ _ | .rdUnmapped17 _ _ | .wrUnmapped17 _ _ _
  | .rdUnmapped18 _ _ | .wrUnmapped18 _ _ _ | .rdUnmapped19 _ _ | .wrUnmapped19 _ _ _ | .rdUnmapped20 _ _
  | .wrUnmapped20 _ _ _ | .rdUnmapped21 _ _ | .wrUnmapped21 _ _ _ | .rdUnmapped22 _ _ | .wrUnmapped22 _ _ _
  | .rdUnmapped23 _ _ | .wrUnmapped23 _ _ _ | .rdUnmapped24 _ _ | .wrUnmapped24 _ _ _ => .internal

/-- The seven command bytes of R105. The match is on the whole byte. -/
def isCommandByte (v : Byte) : Bool :=
  v == 0x01#8 || v == 0x02#8 || v == 0x04#8 || v == 0x08#8 || v == 0x10#8 || v == 0x20#8 || v == 0x40#8

/-- The one check the operand types do not make: a `CMD_INVALID` carries a byte that is no command (R105, R169). -/
def Instr.wf (i : Instr) : Bool :=
  match i with
  | .cmdInvalid _ v => !isCommandByte v
  | .hrdDirect _ | .hwrDirect _ _ | .hrdMrInd _ | .hwrMrInd _ _ | .hrdIdmAr0 _ | .hwrIdmAr0 _ _ | .hrdIdmAr1 _
  | .hwrIdmAr1 _ _ | .hrdIdmDr _ | .hwrIdmDr _ _ | .rdMr | .wrMr _ | .rdGwr0 | .wrGwr0 _ | .rdGwr1 | .wrGwr1 _
  | .rdGwr2 | .wrGwr2 _ | .rdGwr3 | .wrGwr3 _ | .rdSubr0 | .wrSubr0 _ | .rdSubr1 | .wrSubr1 _ | .rdSubr2 | .wrSubr2 _
  | .rdSubr3 | .wrSubr3 _ | .rdShar0 | .wrShar0 _ | .rdShar1 | .wrShar1 _ | .rdShar2 | .wrShar2 _ | .rdShar3
  | .wrShar3 _ | .rdShar4 | .wrShar4 _ | .rdShar5 | .wrShar5 _ | .rdSipr0 | .wrSipr0 _ | .rdSipr1 | .wrSipr1 _
  | .rdSipr2 | .wrSipr2 _ | .rdSipr3 | .wrSipr3 _ | .rdIr | .wrIr _ | .rdImr | .wrImr _ | .rdRmsr | .wrRmsr _
  | .rdTmsr | .wrTmsr _ | .rdSnMr _ | .wrSnMr _ _ | .rdSnCr _ | .rdSnIr _ | .wrSnIr _ _ | .rdSnSr _ | .wrSnSr _ _
  | .rdSnPort0 _ | .wrSnPort0 _ _ | .rdSnPort1 _ | .wrSnPort1 _ _ | .rdSnDipr0 _ | .wrSnDipr0 _ _ | .rdSnDipr1 _
  | .wrSnDipr1 _ _ | .rdSnDipr2 _ | .wrSnDipr2 _ _ | .rdSnDipr3 _ | .wrSnDipr3 _ _ | .rdSnDport0 _ | .wrSnDport0 _ _
  | .rdSnDport1 _ | .wrSnDport1 _ _ | .rdSnTxFsr0 _ | .wrSnTxFsr0 _ _ | .rdSnTxFsr1 _ | .wrSnTxFsr1 _ _
  | .rdSnTxRr0 _ | .wrSnTxRr0 _ _ | .rdSnTxRr1 _ | .wrSnTxRr1 _ _ | .rdSnTxWr0 _ | .wrSnTxWr0 _ _ | .rdSnTxWr1 _
  | .wrSnTxWr1 _ _ | .rdSnRxRsr0 _ | .wrSnRxRsr0 _ _ | .rdSnRxRsr1 _ | .wrSnRxRsr1 _ _ | .rdSnRxRd0 _
  | .wrSnRxRd0 _ _ | .rdSnRxRd1 _ | .wrSnRxRd1 _ _ | .cmdOpen _ | .cmdListen _ | .cmdConnect _ | .cmdDiscon _
  | .cmdClose _ | .cmdSend _ | .cmdRecv _ | .rdTxbuf _ _ | .wrTxbuf _ _ _ | .rdRxbuf _ _ | .wrRxbuf _ _ _
  | .rdUnmapped00 | .wrUnmapped00 _ | .rdUnmapped01 | .wrUnmapped01 _ | .rdUnmapped02 | .wrUnmapped02 _
  | .rdUnmapped03 _ | .wrUnmapped03 _ _ | .rdUnmapped04 _ | .wrUnmapped04 _ _ | .rdUnmapped05 _ | .wrUnmapped05 _ _
  | .rdUnmapped06 _ | .wrUnmapped06 _ _ | .rdUnmapped07 _ | .wrUnmapped07 _ _ | .rdUnmapped08 _ | .wrUnmapped08 _ _
  | .rdUnmapped09 _ | .wrUnmapped09 _ _ | .rdUnmapped10 _ | .wrUnmapped10 _ _ | .rdUnmapped11 _ | .wrUnmapped11 _ _
  | .rdUnmapped12 _ | .wrUnmapped12 _ _ | .rdUnmapped13 _ | .wrUnmapped13 _ _ | .rdUnmapped14 _ | .wrUnmapped14 _ _
  | .rdUnmapped15 _ _ | .wrUnmapped15 _ _ _ | .rdUnmapped16 _ _ | .wrUnmapped16 _ _ _ | .rdUnmapped17 _ _
  | .wrUnmapped17 _ _ _ | .rdUnmapped18 _ _ | .wrUnmapped18 _ _ _ | .rdUnmapped19 _ _ | .wrUnmapped19 _ _ _
  | .rdUnmapped20 _ _ | .wrUnmapped20 _ _ _ | .rdUnmapped21 _ _ | .wrUnmapped21 _ _ _ | .rdUnmapped22 _ _
  | .wrUnmapped22 _ _ _ | .rdUnmapped23 _ _ | .wrUnmapped23 _ _ _ | .rdUnmapped24 _ _ | .wrUnmapped24 _ _ _ | .tick
  | .reset => true

/-- R112: in indirect mode, does host address `h` select a shim register? -/
def shimSelected (p : IndHostDecode) (h : Word) : Bool :=
  match p with
  | .low2 => true
  | .directAbove3 => decide (h.toNat ≤ 3)

/-- The host address of a shim access: the ignored high bits and the selector (R112). -/
def shimAddr (hi : BitVec 14) (sel : BitVec 2) : Word := hi ++ sel

/-- The mode condition of a HOST row (the table's `condition`; R111, R112): whether the bus interface can decode a
transaction to this instruction when `G.MR.IND` is `ind`. The INT and CTRL rows have no condition. -/
def Instr.fits (p : IndHostDecode) (ind : Bool) (i : Instr) : Bool :=
  match i with
  | .hrdDirect h => !(ind && shimSelected p h)
  | .hwrDirect h _ => !(ind && shimSelected p h)
  | .hrdMrInd hi => ind && shimSelected p (shimAddr hi 0#2)
  | .hwrMrInd hi _ => ind && shimSelected p (shimAddr hi 0#2)
  | .hrdIdmAr0 hi => ind && shimSelected p (shimAddr hi 1#2)
  | .hwrIdmAr0 hi _ => ind && shimSelected p (shimAddr hi 1#2)
  | .hrdIdmAr1 hi => ind && shimSelected p (shimAddr hi 2#2)
  | .hwrIdmAr1 hi _ => ind && shimSelected p (shimAddr hi 2#2)
  | .hrdIdmDr hi => ind && shimSelected p (shimAddr hi 3#2)
  | .hwrIdmDr hi _ => ind && shimSelected p (shimAddr hi 3#2)
  | .tick | .reset | .rdMr | .wrMr _ | .rdGwr0 | .wrGwr0 _ | .rdGwr1 | .wrGwr1 _ | .rdGwr2 | .wrGwr2 _ | .rdGwr3
  | .wrGwr3 _ | .rdSubr0 | .wrSubr0 _ | .rdSubr1 | .wrSubr1 _ | .rdSubr2 | .wrSubr2 _ | .rdSubr3 | .wrSubr3 _
  | .rdShar0 | .wrShar0 _ | .rdShar1 | .wrShar1 _ | .rdShar2 | .wrShar2 _ | .rdShar3 | .wrShar3 _ | .rdShar4
  | .wrShar4 _ | .rdShar5 | .wrShar5 _ | .rdSipr0 | .wrSipr0 _ | .rdSipr1 | .wrSipr1 _ | .rdSipr2 | .wrSipr2 _
  | .rdSipr3 | .wrSipr3 _ | .rdIr | .wrIr _ | .rdImr | .wrImr _ | .rdRmsr | .wrRmsr _ | .rdTmsr | .wrTmsr _
  | .rdSnMr _ | .wrSnMr _ _ | .rdSnCr _ | .rdSnIr _ | .wrSnIr _ _ | .rdSnSr _ | .wrSnSr _ _ | .rdSnPort0 _
  | .wrSnPort0 _ _ | .rdSnPort1 _ | .wrSnPort1 _ _ | .rdSnDipr0 _ | .wrSnDipr0 _ _ | .rdSnDipr1 _ | .wrSnDipr1 _ _
  | .rdSnDipr2 _ | .wrSnDipr2 _ _ | .rdSnDipr3 _ | .wrSnDipr3 _ _ | .rdSnDport0 _ | .wrSnDport0 _ _ | .rdSnDport1 _
  | .wrSnDport1 _ _ | .rdSnTxFsr0 _ | .wrSnTxFsr0 _ _ | .rdSnTxFsr1 _ | .wrSnTxFsr1 _ _ | .rdSnTxRr0 _
  | .wrSnTxRr0 _ _ | .rdSnTxRr1 _ | .wrSnTxRr1 _ _ | .rdSnTxWr0 _ | .wrSnTxWr0 _ _ | .rdSnTxWr1 _ | .wrSnTxWr1 _ _
  | .rdSnRxRsr0 _ | .wrSnRxRsr0 _ _ | .rdSnRxRsr1 _ | .wrSnRxRsr1 _ _ | .rdSnRxRd0 _ | .wrSnRxRd0 _ _ | .rdSnRxRd1 _
  | .wrSnRxRd1 _ _ | .cmdOpen _ | .cmdListen _ | .cmdConnect _ | .cmdDiscon _ | .cmdClose _ | .cmdSend _ | .cmdRecv _
  | .cmdInvalid _ _ | .rdTxbuf _ _ | .wrTxbuf _ _ _ | .rdRxbuf _ _ | .wrRxbuf _ _ _ | .rdUnmapped00 | .wrUnmapped00 _
  | .rdUnmapped01 | .wrUnmapped01 _ | .rdUnmapped02 | .wrUnmapped02 _ | .rdUnmapped03 _ | .wrUnmapped03 _ _
  | .rdUnmapped04 _ | .wrUnmapped04 _ _ | .rdUnmapped05 _ | .wrUnmapped05 _ _ | .rdUnmapped06 _ | .wrUnmapped06 _ _
  | .rdUnmapped07 _ | .wrUnmapped07 _ _ | .rdUnmapped08 _ | .wrUnmapped08 _ _ | .rdUnmapped09 _ | .wrUnmapped09 _ _
  | .rdUnmapped10 _ | .wrUnmapped10 _ _ | .rdUnmapped11 _ | .wrUnmapped11 _ _ | .rdUnmapped12 _ | .wrUnmapped12 _ _
  | .rdUnmapped13 _ | .wrUnmapped13 _ _ | .rdUnmapped14 _ | .wrUnmapped14 _ _ | .rdUnmapped15 _ _
  | .wrUnmapped15 _ _ _ | .rdUnmapped16 _ _ | .wrUnmapped16 _ _ _ | .rdUnmapped17 _ _ | .wrUnmapped17 _ _ _
  | .rdUnmapped18 _ _ | .wrUnmapped18 _ _ _ | .rdUnmapped19 _ _ | .wrUnmapped19 _ _ _ | .rdUnmapped20 _ _
  | .wrUnmapped20 _ _ _ | .rdUnmapped21 _ _ | .wrUnmapped21 _ _ _ | .rdUnmapped22 _ _ | .wrUnmapped22 _ _ _
  | .rdUnmapped23 _ _ | .wrUnmapped23 _ _ _ | .rdUnmapped24 _ _ | .wrUnmapped24 _ _ _ => true

end Sys2Proof
end

