-- ==== Sys2Proof/Decode.lean ====
section
/-! DEFINITION. The transaction words, the decoder (spec/30_encoding.md R86 to R91, R100 to R110;
spec/40_bus_interface.md R111, R112) and, after it, the encoder.

Two word formats. A HOST or CTRL row is one 26-bit transaction word (R86), held in 32 bits whose top six are 0. An
INT row is the internal access `(we, a, v)` of R87: the 17-bit pattern `{we, a}` of spec/opcode_table.json in bits
16..0, the data byte in bits 31..24, and bits 23..17 zero (log 10). -/

namespace Sys2Proof

/-- One pending transaction: a word of the host interface (R86), or an internal access given as such (R87, log 10). -/
inductive Transaction where
  | host (w : BitVec 32)
  | internal (w : BitVec 32)
deriving DecidableEq, Repr, Inhabited

/-- Why a word spells no transaction (R108 f). -/
inductive DecodeError where
  /-- A host word with a bit above the 26 of R86 set. -/
  | highBits
  /-- A READ word with nonzero `data`. -/
  | readWithData
  /-- A TICK or RESET word with nonzero `addr` or `data`. -/
  | controlWithOperands
  /-- An internal word with a bit of 23..17 set, between the pattern and the data byte (log 10). -/
  | internalGap
  /-- An internal read word with a nonzero data byte (log 10). -/
  | internalReadWithData
deriving DecidableEq, Repr

/-! ### Fields of an internal address -/

/-- R90: the socket of a socket-register address, bits 9:8. -/
def sockOfReg (a : Word) : SockId := (a.extractLsb' 8 2).toFin

/-- R91: the socket of a buffer address, bits 12:11. -/
def sockOfBuf (a : Word) : SockId := (a.extractLsb' 11 2).toFin

/-- R90: the register offset of a socket-register address, bits 7:0. -/
def regOffset (a : Word) : BitVec 8 := a.extractLsb' 0 8

/-- R91: the byte offset of a buffer address, bits 10:0. -/
def bufOffset (a : Word) : BitVec 11 := a.extractLsb' 0 11

/-- A socket register's internal address, `0x0400 + n*0x100 + off` (R90, R102). -/
def sockAddr (n : SockId) (off : BitVec 8) : Word := 0x01#6 ++ (n.bits ++ off)

/-- A TX buffer byte's internal address, `0x4000 + n*0x800 + o` (R91). -/
def txAddr (n : SockId) (o : BitVec 11) : Word := 0x2#3 ++ (n.bits ++ o)

/-- An RX buffer byte's internal address, `0x6000 + n*0x800 + o` (R91). -/
def rxAddr (n : SockId) (o : BitVec 11) : Word := 0x3#3 ++ (n.bits ++ o)

/-! ### Internal decode -/

/-- The read or the write of a location. -/
def pick (we : Bool) (read write : Instr) : Instr := if we then write else read

/-- R105, R168: the command a byte written to `Sn_CR` is. -/
def decodeCommand (n : SockId) (v : Byte) : Instr :=
  if v = 0x01#8 then .cmdOpen n
  else if v = 0x02#8 then .cmdListen n
  else if v = 0x04#8 then .cmdConnect n
  else if v = 0x08#8 then .cmdDiscon n
  else if v = 0x10#8 then .cmdClose n
  else if v = 0x20#8 then .cmdSend n
  else if v = 0x40#8 then .cmdRecv n
  else .cmdInvalid n v

/-- R101: the global registers, for an address of at most 0x002F; the rest of the page is unmapped (R103). -/
def decodeGlobal (we : Bool) (a : Word) (v : Byte) : Instr :=
  match a.toNat with
  | 0x00 => pick we .rdMr (.wrMr v)
  | 0x01 => pick we .rdGwr0 (.wrGwr0 v)
  | 0x02 => pick we .rdGwr1 (.wrGwr1 v)
  | 0x03 => pick we .rdGwr2 (.wrGwr2 v)
  | 0x04 => pick we .rdGwr3 (.wrGwr3 v)
  | 0x05 => pick we .rdSubr0 (.wrSubr0 v)
  | 0x06 => pick we .rdSubr1 (.wrSubr1 v)
  | 0x07 => pick we .rdSubr2 (.wrSubr2 v)
  | 0x08 => pick we .rdSubr3 (.wrSubr3 v)
  | 0x09 => pick we .rdShar0 (.wrShar0 v)
  | 0x0A => pick we .rdShar1 (.wrShar1 v)
  | 0x0B => pick we .rdShar2 (.wrShar2 v)
  | 0x0C => pick we .rdShar3 (.wrShar3 v)
  | 0x0D => pick we .rdShar4 (.wrShar4 v)
  | 0x0E => pick we .rdShar5 (.wrShar5 v)
  | 0x0F => pick we .rdSipr0 (.wrSipr0 v)
  | 0x10 => pick we .rdSipr1 (.wrSipr1 v)
  | 0x11 => pick we .rdSipr2 (.wrSipr2 v)
  | 0x12 => pick we .rdSipr3 (.wrSipr3 v)
  | 0x13 => pick we .rdUnmapped00 (.wrUnmapped00 v)
  | 0x14 => pick we .rdUnmapped01 (.wrUnmapped01 v)
  | 0x15 => pick we .rdIr (.wrIr v)
  | 0x16 => pick we .rdImr (.wrImr v)
  | 0x17 => pick we .rdUnmapped02 (.wrUnmapped02 v)
  | 0x1A => pick we .rdRmsr (.wrRmsr v)
  | 0x1B => pick we .rdTmsr (.wrTmsr v)
  | _ =>
    if a.toNat < 0x1A then pick we (.rdUnmapped03 (a.extractLsb' 0 1)) (.wrUnmapped03 (a.extractLsb' 0 1) v)
    else if a.toNat < 0x20 then pick we (.rdUnmapped04 (a.extractLsb' 0 2)) (.wrUnmapped04 (a.extractLsb' 0 2) v)
    else pick we (.rdUnmapped05 (a.extractLsb' 0 4)) (.wrUnmapped05 (a.extractLsb' 0 4) v)

/-- R102: the registers of a socket block by offset; the rest of the block is unmapped (R103). -/
def decodeSocket (we : Bool) (n : SockId) (off : BitVec 8) (v : Byte) : Instr :=
  match off.toNat with
  | 0x00 => pick we (.rdSnMr n) (.wrSnMr n v)
  | 0x01 => pick we (.rdSnCr n) (decodeCommand n v)
  | 0x02 => pick we (.rdSnIr n) (.wrSnIr n v)
  | 0x03 => pick we (.rdSnSr n) (.wrSnSr n v)
  | 0x04 => pick we (.rdSnPort0 n) (.wrSnPort0 n v)
  | 0x05 => pick we (.rdSnPort1 n) (.wrSnPort1 n v)
  | 0x0C => pick we (.rdSnDipr0 n) (.wrSnDipr0 n v)
  | 0x0D => pick we (.rdSnDipr1 n) (.wrSnDipr1 n v)
  | 0x0E => pick we (.rdSnDipr2 n) (.wrSnDipr2 n v)
  | 0x0F => pick we (.rdSnDipr3 n) (.wrSnDipr3 n v)
  | 0x10 => pick we (.rdSnDport0 n) (.wrSnDport0 n v)
  | 0x11 => pick we (.rdSnDport1 n) (.wrSnDport1 n v)
  | 0x20 => pick we (.rdSnTxFsr0 n) (.wrSnTxFsr0 n v)
  | 0x21 => pick we (.rdSnTxFsr1 n) (.wrSnTxFsr1 n v)
  | 0x22 => pick we (.rdSnTxRr0 n) (.wrSnTxRr0 n v)
  | 0x23 => pick we (.rdSnTxRr1 n) (.wrSnTxRr1 n v)
  | 0x24 => pick we (.rdSnTxWr0 n) (.wrSnTxWr0 n v)
  | 0x25 => pick we (.rdSnTxWr1 n) (.wrSnTxWr1 n v)
  | 0x26 => pick we (.rdSnRxRsr0 n) (.wrSnRxRsr0 n v)
  | 0x27 => pick we (.rdSnRxRsr1 n) (.wrSnRxRsr1 n v)
  | 0x28 => pick we (.rdSnRxRd0 n) (.wrSnRxRd0 n v)
  | 0x29 => pick we (.rdSnRxRd1 n) (.wrSnRxRd1 n v)
  | _ =>
    if off.toNat < 0x8 then pick we (.rdUnmapped15 n (off.extractLsb' 0 1)) (.wrUnmapped15 n (off.extractLsb' 0 1) v)
    else if off.toNat < 0xc then pick we (.rdUnmapped16 n (off.extractLsb' 0 2)) (.wrUnmapped16 n (off.extractLsb' 0 2) v)
    else if off.toNat < 0x14 then pick we (.rdUnmapped17 n (off.extractLsb' 0 1)) (.wrUnmapped17 n (off.extractLsb' 0 1) v)
    else if off.toNat < 0x18 then pick we (.rdUnmapped18 n (off.extractLsb' 0 2)) (.wrUnmapped18 n (off.extractLsb' 0 2) v)
    else if off.toNat < 0x20 then pick we (.rdUnmapped19 n (off.extractLsb' 0 3)) (.wrUnmapped19 n (off.extractLsb' 0 3) v)
    else if off.toNat < 0x2c then pick we (.rdUnmapped20 n (off.extractLsb' 0 1)) (.wrUnmapped20 n (off.extractLsb' 0 1) v)
    else if off.toNat < 0x30 then pick we (.rdUnmapped21 n (off.extractLsb' 0 2)) (.wrUnmapped21 n (off.extractLsb' 0 2) v)
    else if off.toNat < 0x40 then pick we (.rdUnmapped22 n (off.extractLsb' 0 4)) (.wrUnmapped22 n (off.extractLsb' 0 4) v)
    else if off.toNat < 0x80 then pick we (.rdUnmapped23 n (off.extractLsb' 0 6)) (.wrUnmapped23 n (off.extractLsb' 0 6) v)
    else pick we (.rdUnmapped24 n (off.extractLsb' 0 7)) (.wrUnmapped24 n (off.extractLsb' 0 7) v)

/-- R103: the unmapped addresses outside the global page and the socket blocks, by the table's aligned blocks. -/
def decodeUnmapped (we : Bool) (a : Word) (v : Byte) : Instr :=
  if a.toNat < 0x40 then pick we (.rdUnmapped06 (a.extractLsb' 0 4)) (.wrUnmapped06 (a.extractLsb' 0 4) v)
  else if a.toNat < 0x80 then pick we (.rdUnmapped07 (a.extractLsb' 0 6)) (.wrUnmapped07 (a.extractLsb' 0 6) v)
  else if a.toNat < 0x100 then pick we (.rdUnmapped08 (a.extractLsb' 0 7)) (.wrUnmapped08 (a.extractLsb' 0 7) v)
  else if a.toNat < 0x200 then pick we (.rdUnmapped09 (a.extractLsb' 0 8)) (.wrUnmapped09 (a.extractLsb' 0 8) v)
  else if a.toNat < 0x400 then pick we (.rdUnmapped10 (a.extractLsb' 0 9)) (.wrUnmapped10 (a.extractLsb' 0 9) v)
  else if a.toNat < 0x1000 then pick we (.rdUnmapped11 (a.extractLsb' 0 11)) (.wrUnmapped11 (a.extractLsb' 0 11) v)
  else if a.toNat < 0x2000 then pick we (.rdUnmapped12 (a.extractLsb' 0 12)) (.wrUnmapped12 (a.extractLsb' 0 12) v)
  else if a.toNat < 0x4000 then pick we (.rdUnmapped13 (a.extractLsb' 0 13)) (.wrUnmapped13 (a.extractLsb' 0 13) v)
  else pick we (.rdUnmapped14 (a.extractLsb' 0 15)) (.wrUnmapped14 (a.extractLsb' 0 15) v)

/-- R109: the internal decode, total on `(we, a)`. -/
def decodeInternal (we : Bool) (a : Word) (v : Byte) : Instr :=
  if a.toNat ≤ 0x002F then decodeGlobal we a v
  else if a.extractLsb' 10 6 = 0x01#6 then decodeSocket we (sockOfReg a) (regOffset a) v
  else if a.extractLsb' 13 3 = 0x2#3 then
    pick we (.rdTxbuf (sockOfBuf a) (bufOffset a)) (.wrTxbuf (sockOfBuf a) (bufOffset a) v)
  else if a.extractLsb' 13 3 = 0x3#3 then
    pick we (.rdRxbuf (sockOfBuf a) (bufOffset a)) (.wrRxbuf (sockOfBuf a) (bufOffset a) v)
  else decodeUnmapped we a v

/-! ### Host decode -/

/-- R86: the `op` field. -/
def opRead : BitVec 2 := 0#2
def opWrite : BitVec 2 := 1#2
def opTick : BitVec 2 := 2#2
def opReset : BitVec 2 := 3#2

/-- R112: the shim selector of a host address. -/
def shimSel (h : Word) : BitVec 2 := h.extractLsb' 0 2

/-- R112: the host address bits the selector ignores. -/
def shimHi (h : Word) : BitVec 14 := h.extractLsb' 2 14

/-- R111, R112: which READ row a host address is, when `G.MR.IND` is `ind`. -/
def decodeHostRead (p : IndHostDecode) (ind : Bool) (h : Word) : Instr :=
  if ind && shimSelected p h then
    if shimSel h = 0#2 then .hrdMrInd (shimHi h)
    else if shimSel h = 1#2 then .hrdIdmAr0 (shimHi h)
    else if shimSel h = 2#2 then .hrdIdmAr1 (shimHi h)
    else .hrdIdmDr (shimHi h)
  else .hrdDirect h

/-- R111, R112: which WRITE row a host address is, when `G.MR.IND` is `ind`. -/
def decodeHostWrite (p : IndHostDecode) (ind : Bool) (h : Word) (v : Byte) : Instr :=
  if ind && shimSelected p h then
    if shimSel h = 0#2 then .hwrMrInd (shimHi h) v
    else if shimSel h = 1#2 then .hwrIdmAr0 (shimHi h) v
    else if shimSel h = 2#2 then .hwrIdmAr1 (shimHi h) v
    else .hwrIdmDr (shimHi h) v
  else .hwrDirect h v

/-- R86: the fields of a transaction word. -/
def wordOp (w : BitVec 32) : BitVec 2 := w.extractLsb' 24 2
def wordAddr (w : BitVec 32) : Word := w.extractLsb' 8 16
def wordData (w : BitVec 32) : Byte := w.extractLsb' 0 8

/-- R86, R108 f: decode of a transaction word. -/
def decodeHost (p : IndHostDecode) (ind : Bool) (w : BitVec 32) : Except DecodeError Instr :=
  if w.extractLsb' 26 6 ≠ 0#6 then .error .highBits
  else if wordOp w = opRead then
    if wordData w ≠ 0#8 then .error .readWithData else .ok (decodeHostRead p ind (wordAddr w))
  else if wordOp w = opWrite then .ok (decodeHostWrite p ind (wordAddr w) (wordData w))
  else if wordAddr w ≠ 0#16 ∨ wordData w ≠ 0#8 then .error .controlWithOperands
  else if wordOp w = opTick then .ok .tick
  else .ok .reset

/-- The fields of an internal word (log 10). -/
def internalAddr (w : BitVec 32) : Word := w.extractLsb' 0 16
def internalWe (w : BitVec 32) : Bool := w.getLsbD 16
def internalData (w : BitVec 32) : Byte := w.extractLsb' 24 8

/-- Decode of an internal word: `(we, a, v)` and then R109. -/
def decodeInternalWord (w : BitVec 32) : Except DecodeError Instr :=
  if w.extractLsb' 17 7 ≠ 0#7 then .error .internalGap
  else if internalWe w = false ∧ internalData w ≠ 0#8 then .error .internalReadWithData
  else .ok (decodeInternal (internalWe w) (internalAddr w) (internalData w))

/-- The decoder: what a transaction is when `IND_HOST_DECODE` is `p` and `G.MR.IND` is `ind` at its start (R113). -/
def decode (p : IndHostDecode) (ind : Bool) (t : Transaction) : Except DecodeError Instr :=
  match t with
  | .host w => decodeHost p ind w
  | .internal w => decodeInternalWord w

/-! ### The opcode table's words -/

/-- The transaction whose bits are `w` in the numbering of spec/opcode_table.json. The INT rows have 17 bits, three
whole bytes; the HOST and CTRL rows 26, four whole bytes: the width tells the formats apart (log 11). -/
def tableTransaction (nbits w : Nat) : Transaction :=
  if nbits ≤ 24 then .internal (BitVec.ofNat 32 w) else .host (BitVec.ofNat 32 w)

/-- The instruction the decoder reads from a table word, in the addressing mode the block has after reset: direct
(R305), so a word of the HOST format is its direct-mode row (log 11). -/
def decodeTableWord (nbits w : Nat) : Option Instr :=
  match decode .low2 false (tableTransaction nbits w) with
  | .ok i => some i
  | .error _ => none

/-! ### The encoder -/

/-- R86: a transaction word from its fields. -/
def hostWord (op : BitVec 2) (addr : Word) (data : Byte) : BitVec 32 := 0#6 ++ (op ++ (addr ++ data))

/-- An internal word from its fields (log 10). -/
def internalWord (we : Bool) (a : Word) (v : Byte) : BitVec 32 := v ++ (0#7 ++ (BitVec.ofBool we ++ a))

/-- The transaction that spells an instruction, from the register map of R101 to R103 and the rows of
spec/opcode_table.json. -/
def encode (i : Instr) : Transaction :=
  match i with
  | .hrdDirect h => .host (hostWord opRead h 0#8)
  | .hwrDirect h v => .host (hostWord opWrite h v)
  | .hrdMrInd hi => .host (hostWord opRead (shimAddr hi 0#2) 0#8)
  | .hwrMrInd hi v => .host (hostWord opWrite (shimAddr hi 0#2) v)
  | .hrdIdmAr0 hi => .host (hostWord opRead (shimAddr hi 1#2) 0#8)
  | .hwrIdmAr0 hi v => .host (hostWord opWrite (shimAddr hi 1#2) v)
  | .hrdIdmAr1 hi => .host (hostWord opRead (shimAddr hi 2#2) 0#8)
  | .hwrIdmAr1 hi v => .host (hostWord opWrite (shimAddr hi 2#2) v)
  | .hrdIdmDr hi => .host (hostWord opRead (shimAddr hi 3#2) 0#8)
  | .hwrIdmDr hi v => .host (hostWord opWrite (shimAddr hi 3#2) v)
  | .rdMr => .internal (internalWord false 0x0000#16 0#8)
  | .wrMr v => .internal (internalWord true 0x0000#16 v)
  | .rdGwr0 => .internal (internalWord false 0x0001#16 0#8)
  | .wrGwr0 v => .internal (internalWord true 0x0001#16 v)
  | .rdGwr1 => .internal (internalWord false 0x0002#16 0#8)
  | .wrGwr1 v => .internal (internalWord true 0x0002#16 v)
  | .rdGwr2 => .internal (internalWord false 0x0003#16 0#8)
  | .wrGwr2 v => .internal (internalWord true 0x0003#16 v)
  | .rdGwr3 => .internal (internalWord false 0x0004#16 0#8)
  | .wrGwr3 v => .internal (internalWord true 0x0004#16 v)
  | .rdSubr0 => .internal (internalWord false 0x0005#16 0#8)
  | .wrSubr0 v => .internal (internalWord true 0x0005#16 v)
  | .rdSubr1 => .internal (internalWord false 0x0006#16 0#8)
  | .wrSubr1 v => .internal (internalWord true 0x0006#16 v)
  | .rdSubr2 => .internal (internalWord false 0x0007#16 0#8)
  | .wrSubr2 v => .internal (internalWord true 0x0007#16 v)
  | .rdSubr3 => .internal (internalWord false 0x0008#16 0#8)
  | .wrSubr3 v => .internal (internalWord true 0x0008#16 v)
  | .rdShar0 => .internal (internalWord false 0x0009#16 0#8)
  | .wrShar0 v => .internal (internalWord true 0x0009#16 v)
  | .rdShar1 => .internal (internalWord false 0x000A#16 0#8)
  | .wrShar1 v => .internal (internalWord true 0x000A#16 v)
  | .rdShar2 => .internal (internalWord false 0x000B#16 0#8)
  | .wrShar2 v => .internal (internalWord true 0x000B#16 v)
  | .rdShar3 => .internal (internalWord false 0x000C#16 0#8)
  | .wrShar3 v => .internal (internalWord true 0x000C#16 v)
  | .rdShar4 => .internal (internalWord false 0x000D#16 0#8)
  | .wrShar4 v => .internal (internalWord true 0x000D#16 v)
  | .rdShar5 => .internal (internalWord false 0x000E#16 0#8)
  | .wrShar5 v => .internal (internalWord true 0x000E#16 v)
  | .rdSipr0 => .internal (internalWord false 0x000F#16 0#8)
  | .wrSipr0 v => .internal (internalWord true 0x000F#16 v)
  | .rdSipr1 => .internal (internalWord false 0x0010#16 0#8)
  | .wrSipr1 v => .internal (internalWord true 0x0010#16 v)
  | .rdSipr2 => .internal (internalWord false 0x0011#16 0#8)
  | .wrSipr2 v => .internal (internalWord true 0x0011#16 v)
  | .rdSipr3 => .internal (internalWord false 0x0012#16 0#8)
  | .wrSipr3 v => .internal (internalWord true 0x0012#16 v)
  | .rdIr => .internal (internalWord false 0x0015#16 0#8)
  | .wrIr v => .internal (internalWord true 0x0015#16 v)
  | .rdImr => .internal (internalWord false 0x0016#16 0#8)
  | .wrImr v => .internal (internalWord true 0x0016#16 v)
  | .rdRmsr => .internal (internalWord false 0x001A#16 0#8)
  | .wrRmsr v => .internal (internalWord true 0x001A#16 v)
  | .rdTmsr => .internal (internalWord false 0x001B#16 0#8)
  | .wrTmsr v => .internal (internalWord true 0x001B#16 v)
  | .rdSnMr n => .internal (internalWord false (sockAddr n 0x00#8) 0#8)
  | .wrSnMr n v => .internal (internalWord true (sockAddr n 0x00#8) v)
  | .rdSnCr n => .internal (internalWord false (sockAddr n 0x01#8) 0#8)
  | .rdSnIr n => .internal (internalWord false (sockAddr n 0x02#8) 0#8)
  | .wrSnIr n v => .internal (internalWord true (sockAddr n 0x02#8) v)
  | .rdSnSr n => .internal (internalWord false (sockAddr n 0x03#8) 0#8)
  | .wrSnSr n v => .internal (internalWord true (sockAddr n 0x03#8) v)
  | .rdSnPort0 n => .internal (internalWord false (sockAddr n 0x04#8) 0#8)
  | .wrSnPort0 n v => .internal (internalWord true (sockAddr n 0x04#8) v)
  | .rdSnPort1 n => .internal (internalWord false (sockAddr n 0x05#8) 0#8)
  | .wrSnPort1 n v => .internal (internalWord true (sockAddr n 0x05#8) v)
  | .rdSnDipr0 n => .internal (internalWord false (sockAddr n 0x0C#8) 0#8)
  | .wrSnDipr0 n v => .internal (internalWord true (sockAddr n 0x0C#8) v)
  | .rdSnDipr1 n => .internal (internalWord false (sockAddr n 0x0D#8) 0#8)
  | .wrSnDipr1 n v => .internal (internalWord true (sockAddr n 0x0D#8) v)
  | .rdSnDipr2 n => .internal (internalWord false (sockAddr n 0x0E#8) 0#8)
  | .wrSnDipr2 n v => .internal (internalWord true (sockAddr n 0x0E#8) v)
  | .rdSnDipr3 n => .internal (internalWord false (sockAddr n 0x0F#8) 0#8)
  | .wrSnDipr3 n v => .internal (internalWord true (sockAddr n 0x0F#8) v)
  | .rdSnDport0 n => .internal (internalWord false (sockAddr n 0x10#8) 0#8)
  | .wrSnDport0 n v => .internal (internalWord true (sockAddr n 0x10#8) v)
  | .rdSnDport1 n => .internal (internalWord false (sockAddr n 0x11#8) 0#8)
  | .wrSnDport1 n v => .internal (internalWord true (sockAddr n 0x11#8) v)
  | .rdSnTxFsr0 n => .internal (internalWord false (sockAddr n 0x20#8) 0#8)
  | .wrSnTxFsr0 n v => .internal (internalWord true (sockAddr n 0x20#8) v)
  | .rdSnTxFsr1 n => .internal (internalWord false (sockAddr n 0x21#8) 0#8)
  | .wrSnTxFsr1 n v => .internal (internalWord true (sockAddr n 0x21#8) v)
  | .rdSnTxRr0 n => .internal (internalWord false (sockAddr n 0x22#8) 0#8)
  | .wrSnTxRr0 n v => .internal (internalWord true (sockAddr n 0x22#8) v)
  | .rdSnTxRr1 n => .internal (internalWord false (sockAddr n 0x23#8) 0#8)
  | .wrSnTxRr1 n v => .internal (internalWord true (sockAddr n 0x23#8) v)
  | .rdSnTxWr0 n => .internal (internalWord false (sockAddr n 0x24#8) 0#8)
  | .wrSnTxWr0 n v => .internal (internalWord true (sockAddr n 0x24#8) v)
  | .rdSnTxWr1 n => .internal (internalWord false (sockAddr n 0x25#8) 0#8)
  | .wrSnTxWr1 n v => .internal (internalWord true (sockAddr n 0x25#8) v)
  | .rdSnRxRsr0 n => .internal (internalWord false (sockAddr n 0x26#8) 0#8)
  | .wrSnRxRsr0 n v => .internal (internalWord true (sockAddr n 0x26#8) v)
  | .rdSnRxRsr1 n => .internal (internalWord false (sockAddr n 0x27#8) 0#8)
  | .wrSnRxRsr1 n v => .internal (internalWord true (sockAddr n 0x27#8) v)
  | .rdSnRxRd0 n => .internal (internalWord false (sockAddr n 0x28#8) 0#8)
  | .wrSnRxRd0 n v => .internal (internalWord true (sockAddr n 0x28#8) v)
  | .rdSnRxRd1 n => .internal (internalWord false (sockAddr n 0x29#8) 0#8)
  | .wrSnRxRd1 n v => .internal (internalWord true (sockAddr n 0x29#8) v)
  | .cmdOpen n => .internal (internalWord true (sockAddr n 0x01#8) 0x01#8)
  | .cmdListen n => .internal (internalWord true (sockAddr n 0x01#8) 0x02#8)
  | .cmdConnect n => .internal (internalWord true (sockAddr n 0x01#8) 0x04#8)
  | .cmdDiscon n => .internal (internalWord true (sockAddr n 0x01#8) 0x08#8)
  | .cmdClose n => .internal (internalWord true (sockAddr n 0x01#8) 0x10#8)
  | .cmdSend n => .internal (internalWord true (sockAddr n 0x01#8) 0x20#8)
  | .cmdRecv n => .internal (internalWord true (sockAddr n 0x01#8) 0x40#8)
  | .cmdInvalid n v => .internal (internalWord true (sockAddr n 0x01#8) v)
  | .rdTxbuf n o => .internal (internalWord false (txAddr n o) 0#8)
  | .wrTxbuf n o v => .internal (internalWord true (txAddr n o) v)
  | .rdRxbuf n o => .internal (internalWord false (rxAddr n o) 0#8)
  | .wrRxbuf n o v => .internal (internalWord true (rxAddr n o) v)
  | .rdUnmapped00 => .internal (internalWord false 0x0013#16 0#8)
  | .wrUnmapped00 v => .internal (internalWord true 0x0013#16 v)
  | .rdUnmapped01 => .internal (internalWord false 0x0014#16 0#8)
  | .wrUnmapped01 v => .internal (internalWord true 0x0014#16 v)
  | .rdUnmapped02 => .internal (internalWord false 0x0017#16 0#8)
  | .wrUnmapped02 v => .internal (internalWord true 0x0017#16 v)
  | .rdUnmapped03 o => .internal (internalWord false (0xC#15 ++ o) 0#8)
  | .wrUnmapped03 o v => .internal (internalWord true (0xC#15 ++ o) v)
  | .rdUnmapped04 o => .internal (internalWord false (0x7#14 ++ o) 0#8)
  | .wrUnmapped04 o v => .internal (internalWord true (0x7#14 ++ o) v)
  | .rdUnmapped05 o => .internal (internalWord false (0x2#12 ++ o) 0#8)
  | .wrUnmapped05 o v => .internal (internalWord true (0x2#12 ++ o) v)
  | .rdUnmapped06 o => .internal (internalWord false (0x3#12 ++ o) 0#8)
  | .wrUnmapped06 o v => .internal (internalWord true (0x3#12 ++ o) v)
  | .rdUnmapped07 o => .internal (internalWord false (0x1#10 ++ o) 0#8)
  | .wrUnmapped07 o v => .internal (internalWord true (0x1#10 ++ o) v)
  | .rdUnmapped08 o => .internal (internalWord false (0x1#9 ++ o) 0#8)
  | .wrUnmapped08 o v => .internal (internalWord true (0x1#9 ++ o) v)
  | .rdUnmapped09 o => .internal (internalWord false (0x1#8 ++ o) 0#8)
  | .wrUnmapped09 o v => .internal (internalWord true (0x1#8 ++ o) v)
  | .rdUnmapped10 o => .internal (internalWord false (0x1#7 ++ o) 0#8)
  | .wrUnmapped10 o v => .internal (internalWord true (0x1#7 ++ o) v)
  | .rdUnmapped11 o => .internal (internalWord false (0x1#5 ++ o) 0#8)
  | .wrUnmapped11 o v => .internal (internalWord true (0x1#5 ++ o) v)
  | .rdUnmapped12 o => .internal (internalWord false (0x1#4 ++ o) 0#8)
  | .wrUnmapped12 o v => .internal (internalWord true (0x1#4 ++ o) v)
  | .rdUnmapped13 o => .internal (internalWord false (0x1#3 ++ o) 0#8)
  | .wrUnmapped13 o v => .internal (internalWord true (0x1#3 ++ o) v)
  | .rdUnmapped14 o => .internal (internalWord false (0x1#1 ++ o) 0#8)
  | .wrUnmapped14 o v => .internal (internalWord true (0x1#1 ++ o) v)
  | .rdUnmapped15 n o => .internal (internalWord false (sockAddr n (0x3#7 ++ o)) 0#8)
  | .wrUnmapped15 n o v => .internal (internalWord true (sockAddr n (0x3#7 ++ o)) v)
  | .rdUnmapped16 n o => .internal (internalWord false (sockAddr n (0x2#6 ++ o)) 0#8)
  | .wrUnmapped16 n o v => .internal (internalWord true (sockAddr n (0x2#6 ++ o)) v)
  | .rdUnmapped17 n o => .internal (internalWord false (sockAddr n (0x9#7 ++ o)) 0#8)
  | .wrUnmapped17 n o v => .internal (internalWord true (sockAddr n (0x9#7 ++ o)) v)
  | .rdUnmapped18 n o => .internal (internalWord false (sockAddr n (0x5#6 ++ o)) 0#8)
  | .wrUnmapped18 n o v => .internal (internalWord true (sockAddr n (0x5#6 ++ o)) v)
  | .rdUnmapped19 n o => .internal (internalWord false (sockAddr n (0x3#5 ++ o)) 0#8)
  | .wrUnmapped19 n o v => .internal (internalWord true (sockAddr n (0x3#5 ++ o)) v)
  | .rdUnmapped20 n o => .internal (internalWord false (sockAddr n (0x15#7 ++ o)) 0#8)
  | .wrUnmapped20 n o v => .internal (internalWord true (sockAddr n (0x15#7 ++ o)) v)
  | .rdUnmapped21 n o => .internal (internalWord false (sockAddr n (0xB#6 ++ o)) 0#8)
  | .wrUnmapped21 n o v => .internal (internalWord true (sockAddr n (0xB#6 ++ o)) v)
  | .rdUnmapped22 n o => .internal (internalWord false (sockAddr n (0x3#4 ++ o)) 0#8)
  | .wrUnmapped22 n o v => .internal (internalWord true (sockAddr n (0x3#4 ++ o)) v)
  | .rdUnmapped23 n o => .internal (internalWord false (sockAddr n (0x1#2 ++ o)) 0#8)
  | .wrUnmapped23 n o v => .internal (internalWord true (sockAddr n (0x1#2 ++ o)) v)
  | .rdUnmapped24 n o => .internal (internalWord false (sockAddr n (0x1#1 ++ o)) 0#8)
  | .wrUnmapped24 n o v => .internal (internalWord true (sockAddr n (0x1#1 ++ o)) v)
  | .tick => .host (hostWord opTick 0#16 0#8)
  | .reset => .host (hostWord opReset 0#16 0#8)

end Sys2Proof
end

