-- ==== Sys2Proof/Machine/State.lean ====
section
/-! DEFINITION. The state of the block as plain data: every field of spec/10_state.md R22 and R23, the buffer bytes,
the ports of spec/00_scope.md R8 that carry data over a step, and the model's own bookkeeping; the reasons a step can
stop; and the state after power-up reset. -/

namespace Sys2Proof.Machine

/-- The socket states (R25). -/
inductive SockState where
  | closed
  | init
  | listen
  | connecting
  | established
  | closeWait
  | udp
deriving DecidableEq, Repr, Inhabited

/-- The kinds of the sticky model fault `G.fault` (spec/60_exceptions.md R286). -/
inductive FaultKind where
  /-- `DGQ_OVERFLOW`: a UDP SEND with 32 lengths already queued (R196). -/
  | dgqOverflow
  /-- `DGRAM_TOO_LONG`: a UDP flush of a queued length over 2048 (R253). -/
  | dgramTooLong
deriving DecidableEq, Repr, Inhabited

/-- One socket entity: the fields of R23, but for its two buffers, which are in `State.mem`. -/
structure Socket where
  /-- `Sn_MR`. -/
  mr : Byte
  state : SockState
  /-- The five interrupt bits of R26. -/
  ir : BitVec 5
  /-- `Sn_PORT`. -/
  port : Word
  /-- `Sn_DIPR`. -/
  dip : Ip4
  /-- `Sn_DPORT`. -/
  dport : Word
  /-- `Sn_TX_RR`. -/
  txRR : Word
  /-- `Sn_TX_WR`. -/
  txWR : Word
  /-- Received bytes not yet committed by RECV, 0..2048. -/
  rxAvail : Nat
  /-- `Sn_RX_RD`. -/
  rxRD : Word
  /-- The RX read pointer at the last RECV. -/
  oldRxRD : Word
  /-- The host descriptor; absent exactly when the socket is Closed (R34). -/
  fd : Option Fd
  bound : Bool
  /-- `bindWriteCount`, 0..2 (R165). -/
  bwc : Nat
  writePending : Bool
  /-- `txWR` at the last UDP SEND. -/
  lastSendMark : Word
  /-- The pending datagram lengths, oldest first, at most 32. -/
  dgq : List Word
  tickLive : Bool
deriving DecidableEq, Repr, Inhabited

/-- A socket after either reset (R303). -/
def Socket.reset : Socket where
  mr := 0x00#8
  state := .closed
  ir := 0#5
  port := 0x0000#16
  dip := ⟨0x00#8, 0x00#8, 0x00#8, 0x00#8⟩
  dport := 0x0000#16
  txRR := 0x0000#16
  txWR := 0x0000#16
  rxAvail := 0
  rxRD := 0x0000#16
  oldRxRD := 0x0000#16
  fd := none
  bound := false
  bwc := 0
  writePending := false
  lastSendMark := 0x0000#16
  dgq := []
  tickLive := false

/-- The buffer bytes that have been written since power-up, by internal address, addresses strictly rising. An
unlisted address reads as `none` here: nothing has written it, so it holds its `BUF_INIT` draw (log 4). -/
abbrev Memory := List Host.Cell

/-- The state of the block. -/
structure State where
  /-- `G.MR` (R24). -/
  mr : Byte
  /-- `G.IDM_AR`. -/
  idmAr : Word
  gwr : Ip4
  subr : Ip4
  shar : Mac
  sipr : Ip4
  imr : Byte
  rmsr : Byte
  tmsr : Byte
  /-- `G.fault`, the sticky model fault (R286). -/
  fault : Option FaultKind
  /-- The four socket entities. -/
  socks : Quad Socket
  /-- The bytes of the TX and RX buffers. -/
  mem : Memory
  /-- Port `bus_rdata` (R8): the byte the last transaction returned, none if it was no READ (R86, log 12). -/
  busRdata : Option Byte
  /-- The transactions still to come, next first: the input ports of R8 as the words of R86 (log 9). -/
  busIn : List Transaction
  /-- Port `net_resp` (R8): the answers the environment has already fixed, next first (log 1). -/
  netIn : List NetAnswer
  /-- Port `net_req` (R8): every request issued, most recent first (log 17). -/
  netOut : List NetRequest
  /-- The model's own: how many `UNMAPPED_READ` draws were taken (log 5). -/
  draws : Nat
  /-- The model's own: how many RESET words have run, the number of the current `BUF_INIT` draw (log 4). -/
  powerUps : Nat
  /-- The model's own: the open parameters of R10, changed by no step (log 6). -/
  params : Params
deriving DecidableEq, Repr

/-- The reasons a step could end in a fault: none. "No bus transaction, command or tick is refused, trapped or
aborted" (R279); the model faults of R286 are state (`State.fault`), and the block goes on stepping. Safe (log 19). -/
inductive Fault where
deriving DecidableEq, Repr

/-- The reasons a step can be refused. -/
inductive Refusal where
  /-- Raised by an arm of `exec` whose instruction has no meaning yet. Safe: nothing is claimed of it. -/
  | notModelled (mnemonic : String)
  /-- Raised by `step` on a word that spells no transaction (R108 f: "a model refuses it"). Safe: the device has no
  such word, so no behaviour of the device is lost. -/
  | reservedWord (e : DecodeError)
  /-- Raised by the internal decode level on an instruction that is no internal access. Safe: never reached, since
  `decodeInternal` yields internal accesses only. -/
  | notInternal
deriving DecidableEq, Repr

/-- What running an instruction answers. -/
abbrev Result := Host.Outcome State Fault Refusal

/-- R301, R303, R304: the machine right after power-up reset, with no transaction and no network answer supplied
yet and the open parameters at the defaults of R10. -/
def State.reset : State where
  mr := 0x00#8
  idmAr := 0x0000#16
  gwr := ⟨0x00#8, 0x00#8, 0x00#8, 0x00#8⟩
  subr := ⟨0x00#8, 0x00#8, 0x00#8, 0x00#8⟩
  shar := ⟨0x00#8, 0x00#8, 0x00#8, 0x00#8, 0x00#8, 0x00#8⟩
  sipr := ⟨0x00#8, 0x00#8, 0x00#8, 0x00#8⟩
  imr := 0x00#8
  rmsr := 0x00#8
  tmsr := 0x00#8
  fault := none
  socks := ⟨Socket.reset, Socket.reset, Socket.reset, Socket.reset⟩
  mem := []
  busRdata := none
  busIn := []
  netIn := []
  netOut := []
  draws := 0
  powerUps := 0
  params := Config.defaultParams

end Sys2Proof.Machine
end

