-- ==== Sys2Proof/Machine/Operands.lean ====
section
/-! DEFINITION. The operand forms: halves of a 16-bit register, ring offsets, buffer byte addresses
(spec/20_memory.md R65, R66; spec/30_encoding.md R89, R91; spec/43_ring_buffers.md R211). -/

namespace Sys2Proof.Machine

/-- R65: bits 15:8, the byte at the lower address of a pair. -/
def hiByte (w : Word) : Byte := w.extractLsb' 8 8

/-- R65: bits 7:0, the byte at the higher address of a pair. -/
def loByte (w : Word) : Byte := w.extractLsb' 0 8

/-- R65: the pair `(hi, lo)` as a 16-bit value. -/
def pairWord (hi lo : Byte) : Word := hi ++ lo

/-- R89: a write of the high half keeps the low half. -/
def withHi (w : Word) (v : Byte) : Word := pairWord v (loByte w)

/-- R89: a write of the low half keeps the high half. -/
def withLo (w : Word) (v : Byte) : Word := pairWord (hiByte w) v

/-- R9: `BUFSZ`. -/
def bufSize : Nat := 2048

/-- R9: `DGQ_CAP`. -/
def dgqCap : Nat := 32

/-- R211: the ring offset a 16-bit pointer addresses. -/
def ringOff (p : Word) : Nat := p.toNat % bufSize

/-- R91: the internal address of the TX buffer byte at an offset. -/
def txCell (n : SockId) (o : Nat) : Nat := 0x4000 + n.val * 0x800 + o

/-- R91: the internal address of the RX buffer byte at an offset. -/
def rxCell (n : SockId) (o : Nat) : Nat := 0x6000 + n.val * 0x800 + o

/-- R24: `G.MR.IND`. -/
def indBit (mr : Byte) : Bool := mr.getLsbD 0

/-- R24: `G.MR.AI`. -/
def aiBit (mr : Byte) : Bool := mr.getLsbD 1

/-- R24, R135: the RST bit of a byte written to `MR`. -/
def rstBit (v : Byte) : Bool := v.getLsbD 7

end Sys2Proof.Machine
end

