-- ==== Sys2Proof/Machine/Flags.lean ====
section
/-! DEFINITION. The status and interrupt indications: the socket interrupt bits, the status byte, the global
interrupt register and the interrupt output (spec/10_state.md R26, R32; spec/30_encoding.md R104, R107;
spec/60_exceptions.md R271 to R276). -/

namespace Sys2Proof.Machine

/-- The five socket interrupt bits (R26). -/
inductive IrBit where
  | con
  | discon
  | recv
  | timeout
  | sendok
deriving DecidableEq, Repr

/-- R26: the position of an interrupt bit, as a mask. -/
def irMask (b : IrBit) : BitVec 5 :=
  match b with
  | .con => 0b00001#5
  | .discon => 0b00010#5
  | .recv => 0b00100#5
  | .timeout => 0b01000#5
  | .sendok => 0b10000#5

/-- R272: a socket with an interrupt bit set; setting is idempotent and clears nothing. -/
def Socket.raise (k : Socket) (b : IrBit) : Socket := { k with ir := k.ir ||| irMask b }

/-- R142: what a byte written to `Sn_IR` leaves of the bits: each 1 written clears its bit. -/
def clearIr (ir : BitVec 5) (v : Byte) : BitVec 5 := ir &&& ~~~(v.extractLsb' 0 5)

/-- R104: the status byte `Sn_SR`. -/
def statusByte (st : SockState) : Byte :=
  match st with
  | .closed => 0x00#8
  | .init => 0x13#8
  | .listen => 0x14#8
  | .connecting => 0x15#8
  | .established => 0x17#8
  | .closeWait => 0x1C#8
  | .udp => 0x22#8

/-- R273: one bit of `IR`, set exactly when a socket has any interrupt bit. -/
def irPending (k : Socket) : Bool := k.ir != 0#5

/-- R273: the computed global interrupt register; bits 7:4 are 0. -/
def State.irValue (s : State) : Byte :=
  0#4 ++ (BitVec.ofBool (irPending s.socks.e3) ++ (BitVec.ofBool (irPending s.socks.e2) ++
    (BitVec.ofBool (irPending s.socks.e1) ++ BitVec.ofBool (irPending s.socks.e0))))

/-- R276: the interrupt output, a level computed from the state after every step (log 25). -/
def State.intOut (s : State) : Bool := (s.irValue &&& s.imr &&& 0x0F#8) != 0x00#8

end Sys2Proof.Machine
end

