-- ==== Sys2Proof/Machine/Ops.lean ====
section
/-! DEFINITION. The named operations the meanings are written over: buffer memory, socket access, the requests to the
network oracle (spec/00_scope.md R12), the free values, the shared socket procedures (release R190, bind R167), the
model fault (spec/60_exceptions.md R286, the only event record besides the interrupt bits: the block takes no
exception and returns from none, R287, R288), and the two resets (spec/70_reset_and_hazards.md R301 to R303). -/

namespace Sys2Proof.Machine

/-! ### Buffer memory -/

/-- The first buffer address and the first address past the buffers (R100). -/
def bufLo : Nat := 0x4000
def bufHi : Nat := 0x8000

/-- What is listed at an address; `none`: nothing has written it since power-up (log 4). -/
def memGet (m : Memory) (a : Nat) : Option Byte :=
  match m with
  | [] => none
  | c :: rest => if c.1 = a then some c.2 else memGet rest a

/-- The memory with one byte written; addresses stay strictly rising. -/
def memSet (m : Memory) (a : Nat) (v : Byte) : Memory :=
  match m with
  | [] => [(a, v)]
  | c :: rest => if c.1 = a then (a, v) :: rest else if a < c.1 then (a, v) :: c :: rest else c :: memSet rest a v

/-- Every listed address is above `lo`, rising, and below the end of the buffers. -/
def memRising (lo : Nat) (m : Memory) : Bool :=
  match m with
  | [] => true
  | c :: rest => decide (lo ≤ c.1) && decide (c.1 < bufHi) && memRising (c.1 + 1) rest

/-- The canonical form: addresses strictly rising and inside the buffers. An unlisted address reads as `none`, which
no listed byte equals, so equal memories are equal lists (log 4). -/
def Memory.wf (m : Memory) : Bool := memRising bufLo m

/-- A buffer byte: what was last written there, else its `BUF_INIT` draw (R149, R301, log 4). -/
def State.bufByte (s : State) (a : Nat) : Byte :=
  match memGet s.mem a with
  | some v => v
  | none => Config.bufInit s.powerUps a

/-- A buffer byte written. -/
def State.setBuf (s : State) (a : Nat) (v : Byte) : State := { s with mem := memSet s.mem a v }

/-! ### Sockets -/

def State.sock (s : State) (n : SockId) : Socket := s.socks.get n

def State.setSock (s : State) (n : SockId) (k : Socket) : State := { s with socks := s.socks.set n k }

/-- R26, R272: an event sets an interrupt bit of a socket. -/
def State.raiseIr (s : State) (n : SockId) (b : IrBit) : State := s.setSock n ((s.sock n).raise b)

/-! ### Answers on the bus -/

/-- A READ ends: the byte stands on `bus_rdata` (R86). -/
def answerRead (v : Byte) (s : State) : State := { s with busRdata := some v }

/-- A WRITE, TICK or RESET ends: it returns nothing (R86), so no read data is valid (log 12). -/
def answerNone (s : State) : State := { s with busRdata := none }

/-! ### Requests to the network oracle (R12; log 1, log 2)

Each request is recorded, then answered: by the next answer the environment has fixed, or, when there is none, by
the free value. An answer outside the request's domain is brought into it: an answer of another kind counts as the
failure answer of the request (for `NetReady`, as not ready), and so does the token of an open descriptor; a byte
string is cut to the request's limit, an empty stream read is `Eof`, and a sent count is cut to the length offered. -/

/-- The request is issued (port `net_req`). -/
def State.issue (s : State) (q : NetRequest) : State := { s with netOut := q :: s.netOut }

/-- The raw answer to a request. -/
def State.rawAnswer (s : State) (q : NetRequest) : NetAnswer :=
  match s.netIn with
  | a :: _ => a
  | [] => Config.netAnswer s.netOut q

/-- The state once a request is issued and answered. -/
def State.asked (s : State) (q : NetRequest) : State := { (s.issue q) with netIn := s.netIn.tail }

/-- Requests answered `Ok` or `Fail`: `NetBind`, `NetListen`, `NetConnectAgain`. -/
def answerOk (a : NetAnswer) : Bool :=
  match a with
  | .ok => true
  | .okFd _ | .inProgress | .fail | .err | .ready _ _ | .accepted _ _ _ | .data _ | .eof | .dgram _ _ _ | .sent _ => false

/-- `NetConnect`'s answers. -/
inductive ConnectAnswer where
  | ok
  | inProgress
  | fail
deriving DecidableEq, Repr

def answerConnect (a : NetAnswer) : ConnectAnswer :=
  match a with
  | .ok => .ok
  | .inProgress => .inProgress
  | .okFd _ | .fail | .err | .ready _ _ | .accepted _ _ _ | .data _ | .eof | .dgram _ _ _ | .sent _ => .fail

/-- `NetReady`'s answer: `r ⇒ wantR`, `w ⇒ wantW`. -/
def answerReady (wantR wantW : Bool) (a : NetAnswer) : Bool × Bool :=
  match a with
  | .ready r w => (r && wantR, w && wantW)
  | .ok | .okFd _ | .inProgress | .fail | .err | .accepted _ _ _ | .data _ | .eof | .dgram _ _ _ | .sent _ =>
    (false, false)

/-- The token is that of an open descriptor: a socket holds it (R12, R34). -/
def State.tokenOpen (s : State) (f : Fd) : Bool :=
  s.socks.e0.fd == some f || s.socks.e1.fd == some f || s.socks.e2.fd == some f || s.socks.e3.fd == some f

/-- `NetSocket`'s answer: the token the oracle draws, or failure. The token is distinct from those of the open
descriptors (R12). -/
def answerSocket (s : State) (a : NetAnswer) : Option Fd :=
  match a with
  | .okFd f => if s.tokenOpen f then none else some f
  | .ok | .inProgress | .fail | .err | .ready _ _ | .accepted _ _ _ | .data _ | .eof | .dgram _ _ _ | .sent _ => none

/-- `NetAccept`'s answer: the token the oracle draws and the peer's address, or failure. The token is distinct from
those of the open descriptors, the listening one included (R12, R247). -/
def answerAccept (s : State) (a : NetAnswer) : Option (Fd × Ip4 × Word) :=
  match a with
  | .accepted f ip port => if s.tokenOpen f then none else some (f, ip, port)
  | .ok | .okFd _ | .inProgress | .fail | .err | .ready _ _ | .data _ | .eof | .dgram _ _ _ | .sent _ => none

/-- `NetRecv`'s answers. -/
inductive RecvAnswer where
  | data (b : List Byte)
  | eof
  | err
deriving DecidableEq, Repr

/-- `NetRecv`: `Data(b)` with 1 ≤ len(b) ≤ max, `Eof`, or `Err`; 0 bytes are `Eof` (R250). -/
def answerRecv (max : Nat) (a : NetAnswer) : RecvAnswer :=
  match a with
  | .data b => if (b.take max).isEmpty then .eof else .data (b.take max)
  | .eof => .eof
  | .ok | .okFd _ | .inProgress | .fail | .err | .ready _ _ | .accepted _ _ _ | .dgram _ _ _ | .sent _ => .err

/-- A datagram as the oracle reports it. -/
structure Datagram where
  payload : List Byte
  srcIp : Ip4
  srcPort : Word
deriving DecidableEq, Repr

/-- `NetRecvFrom`: `Dgram(b, srcIP, srcPort)` with len(b) ≤ max, or `Err`; a longer datagram arrives cut (R252). -/
def answerRecvFrom (max : Nat) (a : NetAnswer) : Option Datagram :=
  match a with
  | .dgram b ip port => some ⟨b.take max, ip, port⟩
  | .ok | .okFd _ | .inProgress | .fail | .err | .ready _ _ | .accepted _ _ _ | .data _ | .eof | .sent _ => none

/-- `NetSend` and `NetSendTo`: `Sent(k)` with k ≤ the length offered, or `Err`. -/
def answerSent (len : Nat) (a : NetAnswer) : Option Nat :=
  match a with
  | .sent k => some (min k len)
  | .ok | .okFd _ | .inProgress | .fail | .err | .ready _ _ | .accepted _ _ _ | .data _ | .eof | .dgram _ _ _ => none

/-- `NetClose(fd)` if a descriptor is present; it always completes and has no answer. -/
def State.closeFd (s : State) (fd : Option Fd) : State :=
  match fd with
  | some f => s.issue (.close f)
  | none => s

/-! ### Free values -/

/-- R133: one `UNMAPPED_READ` draw for an unmapped address; each read takes a new one (log 5). -/
def drawUnmapped (a : Word) (s : State) : State :=
  answerRead (Config.unmappedRead s.draws a) { s with draws := s.draws + 1 }

/-! ### The model fault -/

/-- R286: `raise Fault(k)` keeps the first fault and changes nothing else. Its callers end the step. -/
def raiseFault (k : FaultKind) (s : State) : State :=
  match s.fault with
  | none => { s with fault := some k }
  | some _ => s

/-- R286, R72: the step that began in `s` and that the model fault ended in `t`. The fault flag is its only change of
the block's state; the requests already issued and answered are the environment's, and stand (R36, log 14). -/
def State.endedByFault (s t : State) : State := { s with fault := t.fault, netOut := t.netOut, netIn := t.netIn }

/-! ### Shared socket procedures -/

/-- R190: the fields `Release` resets. -/
def Socket.released (k : Socket) : Socket :=
  { k with
    fd := none
    state := .closed
    bound := false
    bwc := 0
    writePending := false
    dgq := []
    tickLive := false }

/-- R190: the release procedure. -/
def release (n : SockId) (s : State) : State :=
  (s.closeFd (s.sock n).fd).setSock n (s.sock n).released

/-- R166: the DISCON bit is set and the socket released. -/
def disconnect (n : SockId) (s : State) : State := release n (s.raiseIr n .discon)

/-- R167: the bind request of a socket. -/
def bindRequest (n : SockId) (s : State) : NetRequest := .bind (s.sock n).fd s.sipr (s.sock n).port

/-- R167: the bind procedure's state on return. -/
def tryBind (n : SockId) (s : State) : State :=
  if (s.sock n).bound then s
  else if answerOk (s.rawAnswer (bindRequest n s)) then
    (s.asked (bindRequest n s)).setSock n { (s.sock n) with bound := true }
  else disconnect n (s.asked (bindRequest n s))

/-- R167: whether the bind procedure leaves the socket bound. -/
def bindOk (n : SockId) (s : State) : Bool :=
  (s.sock n).bound || answerOk (s.rawAnswer (bindRequest n s))

/-! ### The resets -/

/-- R303: the fields both resets set. -/
def resetFields (s : State) : State :=
  { s with
    mr := 0x00#8
    idmAr := 0x0000#16
    gwr := ⟨0x00#8, 0x00#8, 0x00#8, 0x00#8⟩
    subr := ⟨0x00#8, 0x00#8, 0x00#8, 0x00#8⟩
    shar := ⟨0x00#8, 0x00#8, 0x00#8, 0x00#8, 0x00#8, 0x00#8⟩
    sipr := ⟨0x00#8, 0x00#8, 0x00#8, 0x00#8⟩
    imr := 0x00#8
    rmsr := 0x00#8
    tmsr := 0x00#8
    socks := ⟨Socket.reset, Socket.reset, Socket.reset, Socket.reset⟩ }

/-- R302: the soft reset; the buffers are unchanged. -/
def softReset (s : State) : State := resetFields (release 3 (release 2 (release 1 (release 0 s))))

/-- R301: every open descriptor is closed, in socket order. -/
def closeAll (s : State) : State :=
  (((s.closeFd s.socks.e0.fd).closeFd s.socks.e1.fd).closeFd s.socks.e2.fd).closeFd s.socks.e3.fd

/-- R301: the power-up reset of a RESET word: a new `BUF_INIT` draw for every buffer byte, and `G.fault` kept. -/
def powerUpReset (s : State) : State :=
  { resetFields (closeAll s) with mem := [], powerUps := s.powerUps + 1 }

/-! ### The indirect address register -/

/-- R119: the auto-increment after a data-register access, unless the access ended the transaction: a soft reset
(R119) or a raised model fault (R286, log 14). -/
def autoInc (ai ended : Bool) (s : State) : State :=
  if ai && !ended then { s with idmAr := s.idmAr + 1#16 } else s

/-- R118, R119, R135: whether a write of `v` to internal address `t` performs a soft reset. -/
def writeResets (t : Word) (v : Byte) : Bool := decide (t = 0x0000#16) && rstBit v

/-- R195, R196: a UDP SEND of this socket overflows its datagram queue. -/
def sendOverflows (k : Socket) : Bool := k.state == .udp && decide (dgqCap ≤ k.dgq.length)

/-- R196, R286: whether a write of `v` to internal address `t` raises the model fault. -/
def writeFaults (t : Word) (v : Byte) (s : State) : Bool :=
  t == sockAddr (sockOfReg t) 0x01#8 && v == 0x20#8 && sendOverflows (s.sock (sockOfReg t))

end Sys2Proof.Machine
end

