-- ==== Sys2Proof/Machine/Rings.lean ====
section
/-! DEFINITION. Ring-buffer address generation (spec/43_ring_buffers.md R211 to R223). -/

namespace Sys2Proof.Machine

/-- R212: promised bytes not yet sent. -/
def txUsed (k : Socket) : Nat := (k.txWR - k.txRR).toNat

/-- R213: `Sn_TX_FSR`, clamped. -/
def txFree (k : Socket) : Nat := if txUsed k ≤ bufSize then bufSize - txUsed k else 0

/-- R213: `Sn_TX_FSR` as a 16-bit value. -/
def fsrWord (k : Socket) : Word := BitVec.ofNat 16 (txFree k)

/-- R216: `Sn_RX_RSR` as a 16-bit value. -/
def rsrWord (k : Socket) : Word := BitVec.ofNat 16 k.rxAvail

/-- R217: free RX space. -/
def rxFree (k : Socket) : Nat := bufSize - k.rxAvail

/-- R215: the bytes one TCP flush offers. -/
def tcpChunk (k : Socket) : Nat := min (txUsed k) (bufSize - ringOff k.txRR)

/-- R214: `len` TX bytes from ring offset `o` on. -/
def txBytes (s : State) (n : SockId) (o len : Nat) : List Byte :=
  match len with
  | 0 => []
  | k + 1 => s.bufByte (txCell n (o % bufSize)) :: txBytes s n (o + 1) k

/-- R219: where the next received byte is written. -/
def rxPos (k : Socket) : Nat := (k.oldRxRD.toNat + k.rxAvail) % bufSize

/-- R220: the copy loop of `RxAppend`, from ring offset `o` on. -/
def rxWrite (n : SockId) (o : Nat) (b : List Byte) (s : State) : State :=
  match b with
  | [] => s
  | v :: rest => rxWrite n (o + 1) rest (s.setBuf (rxCell n (o % bufSize)) v)

/-- R220: `RxAppend`. -/
def rxAppend (n : SockId) (b : List Byte) (s : State) : State :=
  (rxWrite n (rxPos (s.sock n)) b s).setSock n { (s.sock n) with rxAvail := (s.sock n).rxAvail + b.length }

/-- R222: the UDP pseudo-header for a payload of length `len`. -/
def pseudoHeader (ip : Ip4) (port : Word) (len : Nat) : List Byte :=
  [ip.e0, ip.e1, ip.e2, ip.e3, hiByte port, loByte port, hiByte (BitVec.ofNat 16 len), loByte (BitVec.ofNat 16 len)]

end Sys2Proof.Machine
end

