-- ==== Sys2Proof/Machine/Multiplexer.lean ====
section
/-! DEFINITION. The host I/O multiplexer (spec/44_multiplexer.md R241 to R259): classification, readiness, and the
read and write sub-steps of one socket. -/

namespace Sys2Proof.Machine

/-- R242: is the socket a read-candidate? -/
def wantRead (k : Socket) : Bool :=
  match k.state with
  | .udp => decide (9 ≤ rxFree k)
  | .established | .closeWait => decide (1 ≤ rxFree k)
  | .listen => true
  | .closed | .init | .connecting => false

/-- R242: is the socket a write-candidate? -/
def wantWrite (k : Socket) : Bool := k.writePending || k.state == .connecting

/-! ### Read sub-steps -/

/-- R247: the socket once a connection is accepted. -/
def Socket.accepted (p : Params) (k : Socket) (fd : Fd) (ip : Ip4) (port : Word) : Socket :=
  { k with
    fd := some fd
    state := .established
    ir := if p.acceptSetsCon then k.ir ||| irMask .con else k.ir
    dip := if p.acceptUpdatesDest then ip else k.dip
    dport := if p.acceptUpdatesDest then port else k.dport
    tickLive := false }

/-- R247, R248: `AcceptStep`. -/
def acceptStep (n : SockId) (s : State) : State :=
  match answerAccept s (s.rawAnswer (.accept (s.sock n).fd)) with
  | some (fd, ip, port) =>
    ((s.asked (.accept (s.sock n).fd)).closeFd (s.sock n).fd).setSock n ((s.sock n).accepted s.params fd ip port)
  | none => s.asked (.accept (s.sock n).fd)

/-- R250: `EofStep`. -/
def eofStep (n : SockId) (s : State) : State :=
  if (s.sock n).state = .established then s.setSock n { (s.sock n) with state := .closeWait }
  else disconnect n s

/-- R249: the receive request of a TCP socket. -/
def tcpRecvRequest (n : SockId) (s : State) : NetRequest := .recv (s.sock n).fd (rxFree (s.sock n))

/-- R249, R250, R251: `TcpRecvStep`. -/
def tcpRecvStep (n : SockId) (s : State) : State :=
  match answerRecv (rxFree (s.sock n)) (s.rawAnswer (tcpRecvRequest n s)) with
  | .data b => (rxAppend n b (s.asked (tcpRecvRequest n s))).raiseIr n .recv
  | .eof => eofStep n (s.asked (tcpRecvRequest n s))
  | .err => s.asked (tcpRecvRequest n s)

/-- R252: the payload limit of a UDP receive. -/
def udpRecvMax (k : Socket) : Nat := rxFree k - 8

/-- R252: the receive request of a UDP socket. -/
def udpRecvRequest (n : SockId) (s : State) : NetRequest := .recvFrom (s.sock n).fd (udpRecvMax (s.sock n))

/-- R222, R252: a datagram as it is stored in the ring. -/
def dgramBytes (d : Datagram) : List Byte := pseudoHeader d.srcIp d.srcPort d.payload.length ++ d.payload

/-- R251, R252: `UdpRecvStep`. -/
def udpRecvStep (n : SockId) (s : State) : State :=
  match answerRecvFrom (udpRecvMax (s.sock n)) (s.rawAnswer (udpRecvRequest n s)) with
  | some d => (rxAppend n (dgramBytes d) (s.asked (udpRecvRequest n s))).raiseIr n .recv
  | none => s.asked (udpRecvRequest n s)

/-- R246: `ReadStep`, by the state at its start. -/
def readStep (n : SockId) (s : State) : State :=
  match (s.sock n).state with
  | .listen => acceptStep n s
  | .established | .closeWait => tcpRecvStep n s
  | .udp => udpRecvStep n s
  | .closed | .init | .connecting => s

/-! ### Write sub-steps

A write sub-step can raise the model fault, which ends the whole tick (R286, log 14): `.ok t` goes on from `t`, and
`.error t` is the fault raised in `t`, of which `tickAll` keeps the fault flag and the environment's requests. -/

/-- R253: the bytes of the oldest queued datagram, of length `len`. -/
def dgramOut (n : SockId) (s : State) (len : Nat) : List Byte := txBytes s n (ringOff (s.sock n).txRR) len

/-- R253: the send request of the oldest queued datagram. -/
def sendToRequest (n : SockId) (s : State) (len : Nat) : NetRequest :=
  .sendTo (s.sock n).fd (dgramOut n s len) (s.sock n).dip (s.sock n).dport

/-- R253, R254: the socket once the whole datagram of length `len` is sent; `rest` is still queued. -/
def Socket.datagramSent (k : Socket) (len : Word) (rest : List Word) : Socket :=
  { (k.raise .sendok) with
    txRR := k.txRR + len
    dgq := rest
    writePending := if rest.isEmpty then false else k.writePending }

/-- R253: the socket after a short or failed datagram send. -/
def Socket.shortSend (p : Params) (k : Socket) : Socket :=
  match p.udpShortSend with
  | .dropPending => { k with writePending := false }
  | .retain => k

/-- R253, R254: `UdpFlush`. -/
def udpFlush (n : SockId) (s : State) : Except State State :=
  match (s.sock n).dgq with
  | [] => .ok (s.setSock n { (s.sock n) with writePending := false })
  | len :: rest =>
    if bufSize < len.toNat then .error (raiseFault .dgramTooLong s)
    else if answerSent len.toNat (s.rawAnswer (sendToRequest n s len.toNat)) = some len.toNat then
      .ok ((s.asked (sendToRequest n s len.toNat)).setSock n ((s.sock n).datagramSent len rest))
    else .ok ((s.asked (sendToRequest n s len.toNat)).setSock n ((s.sock n).shortSend s.params))

/-- R255: the send request of a TCP flush. -/
def sendRequest (n : SockId) (s : State) : NetRequest :=
  .send (s.sock n).fd (txBytes s n (ringOff (s.sock n).txRR) (tcpChunk (s.sock n)))

/-- R255, R257: the send of a TCP flush; an empty chunk issues no request. -/
def tcpSend (n : SockId) (s : State) : State :=
  if tcpChunk (s.sock n) = 0 then s
  else
    match answerSent (tcpChunk (s.sock n)) (s.rawAnswer (sendRequest n s)) with
    | some k => (s.asked (sendRequest n s)).setSock n { (s.sock n) with txRR := (s.sock n).txRR + BitVec.ofNat 16 k }
    | none => s.asked (sendRequest n s)

/-- R256: a TCP flush completes exactly when everything promised is sent. -/
def Socket.flushDone (k : Socket) : Socket :=
  if k.txRR = k.txWR then { (k.raise .sendok) with writePending := false } else k

/-- R255, R256: `TcpFlush`. -/
def tcpFlush (n : SockId) (s : State) : State := (tcpSend n s).setSock n ((tcpSend n s).sock n).flushDone

/-- R259: the request of a connect completion. -/
def connectAgainRequest (n : SockId) (s : State) : NetRequest :=
  .connectAgain (s.sock n).fd (s.sock n).dip (s.sock n).dport

/-- R259: `ConnectDone`; CON in both outcomes. -/
def connectDone (n : SockId) (s : State) : State :=
  if answerOk (s.rawAnswer (connectAgainRequest n s)) then
    (s.asked (connectAgainRequest n s)).setSock n { ((s.sock n).raise .con) with state := .established }
  else release n ((s.asked (connectAgainRequest n s)).raiseIr n .con)

/-- R246, R258: `WriteStep`, by the state at its start. -/
def writeStep (n : SockId) (s : State) : Except State State :=
  match (s.sock n).state with
  | .connecting => .ok (connectDone n s)
  | .udp => if (s.sock n).writePending then udpFlush n s else .ok s
  | .established => if (s.sock n).writePending then .ok (tcpFlush n s) else .ok s
  | .closed | .init | .listen | .closeWait => .ok s

/-! ### One socket and one tick -/

/-- R243: the readiness request of a socket. -/
def readyRequest (n : SockId) (s : State) : NetRequest :=
  .ready (s.sock n).fd (wantRead (s.sock n)) (wantWrite (s.sock n))

/-- R243: the readiness answer of a socket. -/
def readiness (n : SockId) (s : State) : Bool × Bool :=
  answerReady (wantRead (s.sock n)) (wantWrite (s.sock n)) (s.rawAnswer (readyRequest n s))

/-- R244: the read sub-step, when the socket was reported readable. -/
def readPart (n : SockId) (r : Bool) (s : State) : State := if r then readStep n s else s

/-- R244, R245: the write sub-step, when the socket was reported writable and its descriptor is still the same. -/
def writePart (n : SockId) (w : Bool) (s : State) : Except State State :=
  if w && (s.sock n).tickLive then writeStep n s else .ok s

/-- R241: a socket's processing is over. -/
def endSocket (n : SockId) (s : State) : State := s.setSock n { (s.sock n) with tickLive := false }

/-- R241: the requests and sub-steps of a live socket. -/
def serveSocket (n : SockId) (s : State) : Except State State :=
  if wantRead (s.sock n) || wantWrite (s.sock n) then
    writePart n (readiness n s).2 (readPart n (readiness n s).1 (s.asked (readyRequest n s)))
  else .ok s

/-- R241: one socket of the tick. -/
def tickSocket (n : SockId) (s : State) : Except State State :=
  if (s.sock n).tickLive then
    match serveSocket n s with
    | .ok t => .ok (endSocket n t)
    | .error t => .error t
  else .ok s

/-- R241: the first loop: a socket is live for this tick when it has a descriptor. -/
def Socket.marked (k : Socket) : Socket := { k with tickLive := k.fd.isSome }

def markLive (s : State) : State :=
  { s with socks := ⟨s.socks.e0.marked, s.socks.e1.marked, s.socks.e2.marked, s.socks.e3.marked⟩ }

/-- R241: the next socket of the tick, unless the tick has ended. -/
def thenSocket (n : SockId) (r : Except State State) : Except State State :=
  match r with
  | .ok t => tickSocket n t
  | .error t => .error t

/-- R241: the four sockets in order 0, 1, 2, 3. -/
def tickSockets (s : State) : Except State State :=
  thenSocket 3 (thenSocket 2 (thenSocket 1 (tickSocket 0 s)))

/-- R241: `Tick()`. A model fault ends it with no other change of the block's state (R286). -/
def tickAll (s : State) : State :=
  match tickSockets (markLive s) with
  | .ok t => t
  | .error t => s.endedByFault t

end Sys2Proof.Machine
end

