-- ==== Sys2Proof/Machine/Control.lean ====
section
/-! DEFINITION. Meanings of the control transactions: TICK (spec/44_multiplexer.md R241) and RESET
(spec/70_reset_and_hazards.md R301). -/

namespace Sys2Proof.Machine

/-- `TICK` (R241): one multiplexer pass. -/
def execTick (s : State) : Result := .next (answerNone (tickAll s))

/-- `RESET` (R301): the power-up reset. -/
def execReset (s : State) : Result := .next (answerNone (powerUpReset s))

end Sys2Proof.Machine
end

