-- ==== Sys2Proof/Machine/Buffers.lean ====
section
/-! DEFINITION. Meanings of the buffer byte accesses (spec/41_register_access.md R149 to R152). -/

namespace Sys2Proof.Machine


/-- `RD_TXBUF` (R149): the TX byte. -/
def execRdTxbuf (n : SockId) (o : BitVec 11) (s : State) : Result :=
  .next (answerRead (s.bufByte (txCell n o.toNat)) s)

/-- `WR_TXBUF` (R150): the TX byte is stored, in every state and at every offset. -/
def execWrTxbuf (n : SockId) (o : BitVec 11) (v : Byte) (s : State) : Result :=
  .next (answerNone (s.setBuf (txCell n o.toNat) v))

/-- `RD_RXBUF` (R151): the RX byte; reading consumes nothing. -/
def execRdRxbuf (n : SockId) (o : BitVec 11) (s : State) : Result :=
  .next (answerRead (s.bufByte (rxCell n o.toNat)) s)

/-- `WR_RXBUF` (R152): the RX byte is stored; no pointer moves. -/
def execWrRxbuf (n : SockId) (o : BitVec 11) (v : Byte) (s : State) : Result :=
  .next (answerNone (s.setBuf (rxCell n o.toNat) v))

end Sys2Proof.Machine
end

