-- ==== Sys2Proof/Machine/SocketRegs.lean ====
section
/-! DEFINITION. Meanings of the socket register accesses, commands excepted (spec/41_register_access.md R140 to R148; spec/42_socket_commands.md R163 to R167). -/

namespace Sys2Proof.Machine


/-- `RD_Sn_MR` (R140): the stored mode byte. -/
def execRdSnMr (n : SockId) (s : State) : Result := .next (answerRead (s.sock n).mr s)

/-- R163: the byte `Sn_MR` stores when `v` is written: `v` if `SN_MR_ACCEPT` holds it, else 0x00. -/
def modeStored (p : Params) (v : Byte) : Byte := if p.snMrAccept.contains v then v else 0x00#8

/-- `WR_Sn_MR` (R163): the filtered store; state and descriptor are untouched (R164). -/
def execWrSnMr (n : SockId) (v : Byte) (s : State) : Result :=
  .next (answerNone (s.setSock n { (s.sock n) with mr := modeStored s.params v }))

/-- `RD_Sn_CR` (R141): no command is ever pending after its write. -/
def execRdSnCr (_n : SockId) (s : State) : Result := .next (answerRead 0x00#8 s)

/-- `RD_Sn_IR` (R142): bits 7:5 read 0. -/
def execRdSnIr (n : SockId) (s : State) : Result := .next (answerRead ((s.sock n).ir.setWidth 8) s)

/-- `WR_Sn_IR` (R142): write 1 to clear. -/
def execWrSnIr (n : SockId) (v : Byte) (s : State) : Result :=
  .next (answerNone (s.setSock n { (s.sock n) with ir := clearIr (s.sock n).ir v }))

/-- `RD_Sn_SR` (R143): the status byte of R104. -/
def execRdSnSr (n : SockId) (s : State) : Result := .next (answerRead (statusByte (s.sock n).state) s)

/-- `WR_Sn_SR` (R143): ignored. -/
def execWrSnSr (_n : SockId) (_v : Byte) (s : State) : Result := .next (answerNone s)

/-- `RD_Sn_PORT0` (R144): bits 15:8 of the source port. -/
def execRdSnPort0 (n : SockId) (s : State) : Result := .next (answerRead (hiByte (s.sock n).port) s)

/-- R165: the socket after a port write of `p`: the write is counted up to 2. -/
def Socket.portWritten (k : Socket) (p : Word) : Socket :=
  { k with port := p, bwc := if k.bwc < 2 then k.bwc + 1 else k.bwc }

/-- R165: whether a port write is the second one since the last release, with a descriptor still to be bound. -/
def Socket.bindArmed (k : Socket) : Bool := decide (k.bwc < 2) && k.bwc + 1 == 2 && k.fd.isSome && !k.bound

/-- R165: a port write with its bind trigger. -/
def writePort (n : SockId) (p : Word) (s : State) : State :=
  if (s.sock n).bindArmed then tryBind n (s.setSock n ((s.sock n).portWritten p))
  else s.setSock n ((s.sock n).portWritten p)

/-- `WR_Sn_PORT0` (R165): bits 15:8 of the source port, with the bind trigger. -/
def execWrSnPort0 (n : SockId) (v : Byte) (s : State) : Result :=
  .next (answerNone (writePort n (withHi (s.sock n).port v) s))

/-- `RD_Sn_PORT1` (R144): bits 7:0 of the source port. -/
def execRdSnPort1 (n : SockId) (s : State) : Result := .next (answerRead (loByte (s.sock n).port) s)

/-- `WR_Sn_PORT1` (R165): bits 7:0 of the source port, with the bind trigger. -/
def execWrSnPort1 (n : SockId) (v : Byte) (s : State) : Result :=
  .next (answerNone (writePort n (withLo (s.sock n).port v) s))

/-- `RD_Sn_DIPR0` (R145): octet 0 of the destination address. -/
def execRdSnDipr0 (n : SockId) (s : State) : Result := .next (answerRead (s.sock n).dip.e0 s)

/-- `WR_Sn_DIPR0` (R145): octet 0 of the destination address is stored. -/
def execWrSnDipr0 (n : SockId) (v : Byte) (s : State) : Result :=
  .next (answerNone (s.setSock n { (s.sock n) with dip := { (s.sock n).dip with e0 := v } }))

/-- `RD_Sn_DIPR1` (R145): octet 1 of the destination address. -/
def execRdSnDipr1 (n : SockId) (s : State) : Result := .next (answerRead (s.sock n).dip.e1 s)

/-- `WR_Sn_DIPR1` (R145): octet 1 of the destination address is stored. -/
def execWrSnDipr1 (n : SockId) (v : Byte) (s : State) : Result :=
  .next (answerNone (s.setSock n { (s.sock n) with dip := { (s.sock n).dip with e1 := v } }))

/-- `RD_Sn_DIPR2` (R145): octet 2 of the destination address. -/
def execRdSnDipr2 (n : SockId) (s : State) : Result := .next (answerRead (s.sock n).dip.e2 s)

/-- `WR_Sn_DIPR2` (R145): octet 2 of the destination address is stored. -/
def execWrSnDipr2 (n : SockId) (v : Byte) (s : State) : Result :=
  .next (answerNone (s.setSock n { (s.sock n) with dip := { (s.sock n).dip with e2 := v } }))

/-- `RD_Sn_DIPR3` (R145): octet 3 of the destination address. -/
def execRdSnDipr3 (n : SockId) (s : State) : Result := .next (answerRead (s.sock n).dip.e3 s)

/-- `WR_Sn_DIPR3` (R145): octet 3 of the destination address is stored. -/
def execWrSnDipr3 (n : SockId) (v : Byte) (s : State) : Result :=
  .next (answerNone (s.setSock n { (s.sock n) with dip := { (s.sock n).dip with e3 := v } }))

/-- `RD_Sn_DPORT0` (R145): bits 15:8 of the destination port. -/
def execRdSnDport0 (n : SockId) (s : State) : Result := .next (answerRead (hiByte (s.sock n).dport) s)

/-- `WR_Sn_DPORT0` (R145): bits 15:8 of the destination port are stored at once (R69). -/
def execWrSnDport0 (n : SockId) (v : Byte) (s : State) : Result :=
  .next (answerNone (s.setSock n { (s.sock n) with dport := withHi (s.sock n).dport v }))

/-- `RD_Sn_DPORT1` (R145): bits 7:0 of the destination port. -/
def execRdSnDport1 (n : SockId) (s : State) : Result := .next (answerRead (loByte (s.sock n).dport) s)

/-- `WR_Sn_DPORT1` (R145): bits 7:0 of the destination port are stored at once (R69). -/
def execWrSnDport1 (n : SockId) (v : Byte) (s : State) : Result :=
  .next (answerNone (s.setSock n { (s.sock n) with dport := withLo (s.sock n).dport v }))

/-- `RD_Sn_TX_FSR0` (R146): bits 15:8 of the TX free space (R213). -/
def execRdSnTxFsr0 (n : SockId) (s : State) : Result := .next (answerRead (hiByte (fsrWord (s.sock n))) s)

/-- `WR_Sn_TX_FSR0` (R146): ignored, read-only. -/
def execWrSnTxFsr0 (_n : SockId) (_v : Byte) (s : State) : Result := .next (answerNone s)

/-- `RD_Sn_TX_FSR1` (R146): bits 7:0 of the TX free space (R213). -/
def execRdSnTxFsr1 (n : SockId) (s : State) : Result := .next (answerRead (loByte (fsrWord (s.sock n))) s)

/-- `WR_Sn_TX_FSR1` (R146): ignored, read-only. -/
def execWrSnTxFsr1 (_n : SockId) (_v : Byte) (s : State) : Result := .next (answerNone s)

/-- `RD_Sn_TX_RR0` (R146): bits 15:8 of the TX read pointer. -/
def execRdSnTxRr0 (n : SockId) (s : State) : Result := .next (answerRead (hiByte (s.sock n).txRR) s)

/-- `WR_Sn_TX_RR0` (R146): ignored, read-only. -/
def execWrSnTxRr0 (_n : SockId) (_v : Byte) (s : State) : Result := .next (answerNone s)

/-- `RD_Sn_TX_RR1` (R146): bits 7:0 of the TX read pointer. -/
def execRdSnTxRr1 (n : SockId) (s : State) : Result := .next (answerRead (loByte (s.sock n).txRR) s)

/-- `WR_Sn_TX_RR1` (R146): ignored, read-only. -/
def execWrSnTxRr1 (_n : SockId) (_v : Byte) (s : State) : Result := .next (answerNone s)

/-- `RD_Sn_TX_WR0` (R147): bits 15:8 of the TX write pointer. -/
def execRdSnTxWr0 (n : SockId) (s : State) : Result := .next (answerRead (hiByte (s.sock n).txWR) s)

/-- `WR_Sn_TX_WR0` (R147): bits 15:8 of the TX write pointer are stored at once (R69). -/
def execWrSnTxWr0 (n : SockId) (v : Byte) (s : State) : Result :=
  .next (answerNone (s.setSock n { (s.sock n) with txWR := withHi (s.sock n).txWR v }))

/-- `RD_Sn_TX_WR1` (R147): bits 7:0 of the TX write pointer. -/
def execRdSnTxWr1 (n : SockId) (s : State) : Result := .next (answerRead (loByte (s.sock n).txWR) s)

/-- `WR_Sn_TX_WR1` (R147): bits 7:0 of the TX write pointer are stored at once (R69). -/
def execWrSnTxWr1 (n : SockId) (v : Byte) (s : State) : Result :=
  .next (answerNone (s.setSock n { (s.sock n) with txWR := withLo (s.sock n).txWR v }))

/-- `RD_Sn_RX_RSR0` (R148): bits 15:8 of the RX used count (R216). -/
def execRdSnRxRsr0 (n : SockId) (s : State) : Result := .next (answerRead (hiByte (rsrWord (s.sock n))) s)

/-- `WR_Sn_RX_RSR0` (R148): ignored, read-only. -/
def execWrSnRxRsr0 (_n : SockId) (_v : Byte) (s : State) : Result := .next (answerNone s)

/-- `RD_Sn_RX_RSR1` (R148): bits 7:0 of the RX used count (R216). -/
def execRdSnRxRsr1 (n : SockId) (s : State) : Result := .next (answerRead (loByte (rsrWord (s.sock n))) s)

/-- `WR_Sn_RX_RSR1` (R148): ignored, read-only. -/
def execWrSnRxRsr1 (_n : SockId) (_v : Byte) (s : State) : Result := .next (answerNone s)

/-- `RD_Sn_RX_RD0` (R147): bits 15:8 of the RX read pointer. -/
def execRdSnRxRd0 (n : SockId) (s : State) : Result := .next (answerRead (hiByte (s.sock n).rxRD) s)

/-- `WR_Sn_RX_RD0` (R147): bits 15:8 of the RX read pointer are stored at once (R69). -/
def execWrSnRxRd0 (n : SockId) (v : Byte) (s : State) : Result :=
  .next (answerNone (s.setSock n { (s.sock n) with rxRD := withHi (s.sock n).rxRD v }))

/-- `RD_Sn_RX_RD1` (R147): bits 7:0 of the RX read pointer. -/
def execRdSnRxRd1 (n : SockId) (s : State) : Result := .next (answerRead (loByte (s.sock n).rxRD) s)

/-- `WR_Sn_RX_RD1` (R147): bits 7:0 of the RX read pointer are stored at once (R69). -/
def execWrSnRxRd1 (n : SockId) (v : Byte) (s : State) : Result :=
  .next (answerNone (s.setSock n { (s.sock n) with rxRD := withLo (s.sock n).rxRD v }))

end Sys2Proof.Machine
end

