-- ==== Sys2Proof/Machine/Commands.lean ====
section
/-! DEFINITION. Meanings of the command writes to `Sn_CR` (spec/42_socket_commands.md R161 to R201). A command in a
state that does not admit it changes nothing (R162, R169). -/

namespace Sys2Proof.Machine

/-- R171: the protocol nibble of the mode register. -/
def protocol (k : Socket) : BitVec 4 := k.mr.extractLsb' 0 4

/-- R171: the socket once `NetSocket` answered `Ok(fd)`. -/
def Socket.opened (k : Socket) (fd : Fd) (next : SockState) : Socket :=
  { k with fd := some fd, state := next, lastSendMark := k.txWR }

/-- R171, R172: OPEN of a Closed socket with a supported protocol. -/
def openSocket (kind : SockKind) (next : SockState) (n : SockId) (s : State) : State :=
  match answerSocket s (s.rawAnswer (.socket kind)) with
  | some fd =>
    let t := (s.asked (.socket kind)).setSock n ((s.sock n).opened fd next)
    if (s.sock n).bwc = 2 then tryBind n t else t
  | none => s.asked (.socket kind)

/-- `CMD_OPEN` (R171, R172, R173). -/
def execCmdOpen (n : SockId) (s : State) : Result :=
  .next (answerNone
    (if (s.sock n).state ≠ .closed then s
     else if protocol (s.sock n) = 1#4 then openSocket .stream .init n s
     else if protocol (s.sock n) = 2#4 then openSocket .dgram .udp n s
     else s))

/-- R174, R175: LISTEN of a bound socket. -/
def listenBound (n : SockId) (s : State) : State :=
  if answerOk (s.rawAnswer (.listen (s.sock n).fd)) then
    (s.asked (.listen (s.sock n).fd)).setSock n { (s.sock n) with state := .listen }
  else s.asked (.listen (s.sock n).fd)

/-- `CMD_LISTEN` (R174, R175). -/
def execCmdListen (n : SockId) (s : State) : Result :=
  .next (answerNone
    (if (s.sock n).state ≠ .init then s
     else if bindOk n s then listenBound n (tryBind n s)
     else tryBind n s))

/-- R177: the request of CONNECT. -/
def connectRequest (n : SockId) (s : State) : NetRequest := .connect (s.sock n).fd (s.sock n).dip (s.sock n).dport

/-- R177: CONNECT of a bound socket. -/
def connectBound (n : SockId) (s : State) : State :=
  match answerConnect (s.rawAnswer (connectRequest n s)) with
  | .ok => (s.asked (connectRequest n s)).setSock n { ((s.sock n).raise .con) with state := .established }
  | .inProgress => (s.asked (connectRequest n s)).setSock n { (s.sock n) with state := .connecting }
  | .fail => disconnect n (s.asked (connectRequest n s))

/-- `CMD_CONNECT` (R177). -/
def execCmdConnect (n : SockId) (s : State) : Result :=
  .next (answerNone
    (if (s.sock n).state ≠ .init then s
     else if bindOk n s then connectBound n (tryBind n s)
     else tryBind n s))

/-- `CMD_DISCON` (R182). -/
def execCmdDiscon (n : SockId) (s : State) : Result :=
  .next (answerNone
    (match (s.sock n).state with
     | .established | .closeWait => disconnect n s
     | .closed | .init | .listen | .connecting | .udp => s))

/-- `CMD_CLOSE` (R186): accepted in every state, sets no interrupt bit. -/
def execCmdClose (n : SockId) (s : State) : Result := .next (answerNone (release n s))

/-- R195: the socket after a UDP SEND: one datagram length is queued, and the mark moves to the write pointer. -/
def Socket.datagramQueued (k : Socket) : Socket :=
  { k with dgq := k.dgq ++ [k.txWR - k.lastSendMark], writePending := true, lastSendMark := k.txWR }

/-- R195, R196: SEND of a Udp socket. -/
def udpSend (n : SockId) (s : State) : State :=
  if sendOverflows (s.sock n) then raiseFault .dgqOverflow s
  else s.setSock n (s.sock n).datagramQueued

/-- `CMD_SEND` (R194, R195, R196, R197). -/
def execCmdSend (n : SockId) (s : State) : Result :=
  .next (answerNone
    (match (s.sock n).state with
     | .established => s.setSock n { (s.sock n) with writePending := true }
     | .udp => udpSend n s
     | .closed | .init | .listen | .connecting | .closeWait => s))

/-- R199: what RECV leaves of `rxAvail`, by saturating subtraction of the pointer's advance. -/
def recvLeft (k : Socket) : Nat := k.rxAvail - (k.rxRD - k.oldRxRD).toNat

/-- R199, R200: the socket after RECV. -/
def Socket.received (k : Socket) : Socket :=
  if 0 < recvLeft k then { (k.raise .recv) with oldRxRD := k.rxRD, rxAvail := recvLeft k }
  else { k with oldRxRD := k.rxRD, rxAvail := recvLeft k }

/-- `CMD_RECV` (R199, R200, R201). -/
def execCmdRecv (n : SockId) (s : State) : Result :=
  .next (answerNone
    (match (s.sock n).state with
     | .udp | .established | .closeWait => s.setSock n (s.sock n).received
     | .closed | .init | .listen | .connecting => s))

/-- `CMD_INVALID` (R169): the byte is no command, and nothing changes. -/
def execCmdInvalid (_n : SockId) (_v : Byte) (s : State) : Result := .next (answerNone s)

end Sys2Proof.Machine
end

