-- ==== Sys2Proof/Machine/Globals.lean ====
section
/-! DEFINITION. Meanings of the global register accesses (spec/41_register_access.md R135 to R139). -/

namespace Sys2Proof.Machine


/-- `RD_MR` (R135): bit 7 of `G.MR` is always 0. -/
def execRdMr (s : State) : Result := .next (answerRead s.mr s)

/-- `WR_MR` (R135): a byte with bit 7 set performs the soft reset and its other bits are discarded. -/
def execWrMr (v : Byte) (s : State) : Result :=
  .next (answerNone (if rstBit v then softReset s else { s with mr := v }))

/-- `RD_GWR0` (R136): byte 0 of the gateway address. -/
def execRdGwr0 (s : State) : Result := .next (answerRead s.gwr.e0 s)

/-- `WR_GWR0` (R136): byte 0 of the gateway address is stored. -/
def execWrGwr0 (v : Byte) (s : State) : Result := .next (answerNone { s with gwr := { s.gwr with e0 := v } })

/-- `RD_GWR1` (R136): byte 1 of the gateway address. -/
def execRdGwr1 (s : State) : Result := .next (answerRead s.gwr.e1 s)

/-- `WR_GWR1` (R136): byte 1 of the gateway address is stored. -/
def execWrGwr1 (v : Byte) (s : State) : Result := .next (answerNone { s with gwr := { s.gwr with e1 := v } })

/-- `RD_GWR2` (R136): byte 2 of the gateway address. -/
def execRdGwr2 (s : State) : Result := .next (answerRead s.gwr.e2 s)

/-- `WR_GWR2` (R136): byte 2 of the gateway address is stored. -/
def execWrGwr2 (v : Byte) (s : State) : Result := .next (answerNone { s with gwr := { s.gwr with e2 := v } })

/-- `RD_GWR3` (R136): byte 3 of the gateway address. -/
def execRdGwr3 (s : State) : Result := .next (answerRead s.gwr.e3 s)

/-- `WR_GWR3` (R136): byte 3 of the gateway address is stored. -/
def execWrGwr3 (v : Byte) (s : State) : Result := .next (answerNone { s with gwr := { s.gwr with e3 := v } })

/-- `RD_SUBR0` (R136): byte 0 of the subnet mask. -/
def execRdSubr0 (s : State) : Result := .next (answerRead s.subr.e0 s)

/-- `WR_SUBR0` (R136): byte 0 of the subnet mask is stored. -/
def execWrSubr0 (v : Byte) (s : State) : Result := .next (answerNone { s with subr := { s.subr with e0 := v } })

/-- `RD_SUBR1` (R136): byte 1 of the subnet mask. -/
def execRdSubr1 (s : State) : Result := .next (answerRead s.subr.e1 s)

/-- `WR_SUBR1` (R136): byte 1 of the subnet mask is stored. -/
def execWrSubr1 (v : Byte) (s : State) : Result := .next (answerNone { s with subr := { s.subr with e1 := v } })

/-- `RD_SUBR2` (R136): byte 2 of the subnet mask. -/
def execRdSubr2 (s : State) : Result := .next (answerRead s.subr.e2 s)

/-- `WR_SUBR2` (R136): byte 2 of the subnet mask is stored. -/
def execWrSubr2 (v : Byte) (s : State) : Result := .next (answerNone { s with subr := { s.subr with e2 := v } })

/-- `RD_SUBR3` (R136): byte 3 of the subnet mask. -/
def execRdSubr3 (s : State) : Result := .next (answerRead s.subr.e3 s)

/-- `WR_SUBR3` (R136): byte 3 of the subnet mask is stored. -/
def execWrSubr3 (v : Byte) (s : State) : Result := .next (answerNone { s with subr := { s.subr with e3 := v } })

/-- `RD_SHAR0` (R136): byte 0 of the source hardware address. -/
def execRdShar0 (s : State) : Result := .next (answerRead s.shar.b0 s)

/-- `WR_SHAR0` (R136): byte 0 of the source hardware address is stored. -/
def execWrShar0 (v : Byte) (s : State) : Result := .next (answerNone { s with shar := { s.shar with b0 := v } })

/-- `RD_SHAR1` (R136): byte 1 of the source hardware address. -/
def execRdShar1 (s : State) : Result := .next (answerRead s.shar.b1 s)

/-- `WR_SHAR1` (R136): byte 1 of the source hardware address is stored. -/
def execWrShar1 (v : Byte) (s : State) : Result := .next (answerNone { s with shar := { s.shar with b1 := v } })

/-- `RD_SHAR2` (R136): byte 2 of the source hardware address. -/
def execRdShar2 (s : State) : Result := .next (answerRead s.shar.b2 s)

/-- `WR_SHAR2` (R136): byte 2 of the source hardware address is stored. -/
def execWrShar2 (v : Byte) (s : State) : Result := .next (answerNone { s with shar := { s.shar with b2 := v } })

/-- `RD_SHAR3` (R136): byte 3 of the source hardware address. -/
def execRdShar3 (s : State) : Result := .next (answerRead s.shar.b3 s)

/-- `WR_SHAR3` (R136): byte 3 of the source hardware address is stored. -/
def execWrShar3 (v : Byte) (s : State) : Result := .next (answerNone { s with shar := { s.shar with b3 := v } })

/-- `RD_SHAR4` (R136): byte 4 of the source hardware address. -/
def execRdShar4 (s : State) : Result := .next (answerRead s.shar.b4 s)

/-- `WR_SHAR4` (R136): byte 4 of the source hardware address is stored. -/
def execWrShar4 (v : Byte) (s : State) : Result := .next (answerNone { s with shar := { s.shar with b4 := v } })

/-- `RD_SHAR5` (R136): byte 5 of the source hardware address. -/
def execRdShar5 (s : State) : Result := .next (answerRead s.shar.b5 s)

/-- `WR_SHAR5` (R136): byte 5 of the source hardware address is stored. -/
def execWrShar5 (v : Byte) (s : State) : Result := .next (answerNone { s with shar := { s.shar with b5 := v } })

/-- `RD_SIPR0` (R136): byte 0 of the source IP address. -/
def execRdSipr0 (s : State) : Result := .next (answerRead s.sipr.e0 s)

/-- `WR_SIPR0` (R136): byte 0 of the source IP address is stored. -/
def execWrSipr0 (v : Byte) (s : State) : Result := .next (answerNone { s with sipr := { s.sipr with e0 := v } })

/-- `RD_SIPR1` (R136): byte 1 of the source IP address. -/
def execRdSipr1 (s : State) : Result := .next (answerRead s.sipr.e1 s)

/-- `WR_SIPR1` (R136): byte 1 of the source IP address is stored. -/
def execWrSipr1 (v : Byte) (s : State) : Result := .next (answerNone { s with sipr := { s.sipr with e1 := v } })

/-- `RD_SIPR2` (R136): byte 2 of the source IP address. -/
def execRdSipr2 (s : State) : Result := .next (answerRead s.sipr.e2 s)

/-- `WR_SIPR2` (R136): byte 2 of the source IP address is stored. -/
def execWrSipr2 (v : Byte) (s : State) : Result := .next (answerNone { s with sipr := { s.sipr with e2 := v } })

/-- `RD_SIPR3` (R136): byte 3 of the source IP address. -/
def execRdSipr3 (s : State) : Result := .next (answerRead s.sipr.e3 s)

/-- `WR_SIPR3` (R136): byte 3 of the source IP address is stored. -/
def execWrSipr3 (v : Byte) (s : State) : Result := .next (answerNone { s with sipr := { s.sipr with e3 := v } })

/-- `RD_IR` (R137): the computed global interrupt register. -/
def execRdIr (s : State) : Result := .next (answerRead s.irValue s)

/-- `WR_IR` (R137): ignored; a bit is cleared only in its socket's `Sn_IR`. -/
def execWrIr (_v : Byte) (s : State) : Result := .next (answerNone s)

/-- `RD_IMR` (R138): the interrupt mask. -/
def execRdImr (s : State) : Result := .next (answerRead s.imr s)

/-- `WR_IMR` (R138): the interrupt mask, is stored. -/
def execWrImr (v : Byte) (s : State) : Result := .next (answerNone { s with imr := v })

/-- `RD_RMSR` (R139): the RX memory size register, stored only. -/
def execRdRmsr (s : State) : Result := .next (answerRead s.rmsr s)

/-- `WR_RMSR` (R139): the RX memory size register, stored only. -/
def execWrRmsr (v : Byte) (s : State) : Result := .next (answerNone { s with rmsr := v })

/-- `RD_TMSR` (R139): the TX memory size register, stored only. -/
def execRdTmsr (s : State) : Result := .next (answerRead s.tmsr s)

/-- `WR_TMSR` (R139): the TX memory size register, stored only. -/
def execWrTmsr (v : Byte) (s : State) : Result := .next (answerNone { s with tmsr := v })

end Sys2Proof.Machine
end

