-- ==== Sys2Proof/Machine/Unmapped.lean ====
section
/-! DEFINITION. Meanings of the unmapped accesses (spec/41_register_access.md R133, R134): a read answers a new draw for its internal address, a write changes no state. -/

namespace Sys2Proof.Machine


/-- `RD_UNMAPPED_00` (R133): a draw. -/
def execRdUnmapped00 (s : State) : Result := .next (drawUnmapped 0x0013#16 s)

/-- `WR_UNMAPPED_00` (R134): ignored. -/
def execWrUnmapped00 (_v : Byte) (s : State) : Result := .next (answerNone s)

/-- `RD_UNMAPPED_01` (R133): a draw. -/
def execRdUnmapped01 (s : State) : Result := .next (drawUnmapped 0x0014#16 s)

/-- `WR_UNMAPPED_01` (R134): ignored. -/
def execWrUnmapped01 (_v : Byte) (s : State) : Result := .next (answerNone s)

/-- `RD_UNMAPPED_02` (R133): a draw. -/
def execRdUnmapped02 (s : State) : Result := .next (drawUnmapped 0x0017#16 s)

/-- `WR_UNMAPPED_02` (R134): ignored. -/
def execWrUnmapped02 (_v : Byte) (s : State) : Result := .next (answerNone s)

/-- `RD_UNMAPPED_03` (R133): a draw. -/
def execRdUnmapped03 (o : BitVec 1) (s : State) : Result := .next (drawUnmapped (0xC#15 ++ o) s)

/-- `WR_UNMAPPED_03` (R134): ignored. -/
def execWrUnmapped03 (_o : BitVec 1) (_v : Byte) (s : State) : Result := .next (answerNone s)

/-- `RD_UNMAPPED_04` (R133): a draw. -/
def execRdUnmapped04 (o : BitVec 2) (s : State) : Result := .next (drawUnmapped (0x7#14 ++ o) s)

/-- `WR_UNMAPPED_04` (R134): ignored. -/
def execWrUnmapped04 (_o : BitVec 2) (_v : Byte) (s : State) : Result := .next (answerNone s)

/-- `RD_UNMAPPED_05` (R133): a draw. -/
def execRdUnmapped05 (o : BitVec 4) (s : State) : Result := .next (drawUnmapped (0x2#12 ++ o) s)

/-- `WR_UNMAPPED_05` (R134): ignored. -/
def execWrUnmapped05 (_o : BitVec 4) (_v : Byte) (s : State) : Result := .next (answerNone s)

/-- `RD_UNMAPPED_06` (R133): a draw. -/
def execRdUnmapped06 (o : BitVec 4) (s : State) : Result := .next (drawUnmapped (0x3#12 ++ o) s)

/-- `WR_UNMAPPED_06` (R134): ignored. -/
def execWrUnmapped06 (_o : BitVec 4) (_v : Byte) (s : State) : Result := .next (answerNone s)

/-- `RD_UNMAPPED_07` (R133): a draw. -/
def execRdUnmapped07 (o : BitVec 6) (s : State) : Result := .next (drawUnmapped (0x1#10 ++ o) s)

/-- `WR_UNMAPPED_07` (R134): ignored. -/
def execWrUnmapped07 (_o : BitVec 6) (_v : Byte) (s : State) : Result := .next (answerNone s)

/-- `RD_UNMAPPED_08` (R133): a draw. -/
def execRdUnmapped08 (o : BitVec 7) (s : State) : Result := .next (drawUnmapped (0x1#9 ++ o) s)

/-- `WR_UNMAPPED_08` (R134): ignored. -/
def execWrUnmapped08 (_o : BitVec 7) (_v : Byte) (s : State) : Result := .next (answerNone s)

/-- `RD_UNMAPPED_09` (R133): a draw. -/
def execRdUnmapped09 (o : BitVec 8) (s : State) : Result := .next (drawUnmapped (0x1#8 ++ o) s)

/-- `WR_UNMAPPED_09` (R134): ignored. -/
def execWrUnmapped09 (_o : BitVec 8) (_v : Byte) (s : State) : Result := .next (answerNone s)

/-- `RD_UNMAPPED_10` (R133): a draw. -/
def execRdUnmapped10 (o : BitVec 9) (s : State) : Result := .next (drawUnmapped (0x1#7 ++ o) s)

/-- `WR_UNMAPPED_10` (R134): ignored. -/
def execWrUnmapped10 (_o : BitVec 9) (_v : Byte) (s : State) : Result := .next (answerNone s)

/-- `RD_UNMAPPED_11` (R133): a draw. -/
def execRdUnmapped11 (o : BitVec 11) (s : State) : Result := .next (drawUnmapped (0x1#5 ++ o) s)

/-- `WR_UNMAPPED_11` (R134): ignored. -/
def execWrUnmapped11 (_o : BitVec 11) (_v : Byte) (s : State) : Result := .next (answerNone s)

/-- `RD_UNMAPPED_12` (R133): a draw. -/
def execRdUnmapped12 (o : BitVec 12) (s : State) : Result := .next (drawUnmapped (0x1#4 ++ o) s)

/-- `WR_UNMAPPED_12` (R134): ignored. -/
def execWrUnmapped12 (_o : BitVec 12) (_v : Byte) (s : State) : Result := .next (answerNone s)

/-- `RD_UNMAPPED_13` (R133): a draw. -/
def execRdUnmapped13 (o : BitVec 13) (s : State) : Result := .next (drawUnmapped (0x1#3 ++ o) s)

/-- `WR_UNMAPPED_13` (R134): ignored. -/
def execWrUnmapped13 (_o : BitVec 13) (_v : Byte) (s : State) : Result := .next (answerNone s)

/-- `RD_UNMAPPED_14` (R133): a draw. -/
def execRdUnmapped14 (o : BitVec 15) (s : State) : Result := .next (drawUnmapped (0x1#1 ++ o) s)

/-- `WR_UNMAPPED_14` (R134): ignored. -/
def execWrUnmapped14 (_o : BitVec 15) (_v : Byte) (s : State) : Result := .next (answerNone s)

/-- `RD_UNMAPPED_15` (R133): a draw. -/
def execRdUnmapped15 (n : SockId) (o : BitVec 1) (s : State) : Result :=
  .next (drawUnmapped (sockAddr n (0x3#7 ++ o)) s)

/-- `WR_UNMAPPED_15` (R134): ignored. -/
def execWrUnmapped15 (_n : SockId) (_o : BitVec 1) (_v : Byte) (s : State) : Result := .next (answerNone s)

/-- `RD_UNMAPPED_16` (R133): a draw. -/
def execRdUnmapped16 (n : SockId) (o : BitVec 2) (s : State) : Result :=
  .next (drawUnmapped (sockAddr n (0x2#6 ++ o)) s)

/-- `WR_UNMAPPED_16` (R134): ignored. -/
def execWrUnmapped16 (_n : SockId) (_o : BitVec 2) (_v : Byte) (s : State) : Result := .next (answerNone s)

/-- `RD_UNMAPPED_17` (R133): a draw. -/
def execRdUnmapped17 (n : SockId) (o : BitVec 1) (s : State) : Result :=
  .next (drawUnmapped (sockAddr n (0x9#7 ++ o)) s)

/-- `WR_UNMAPPED_17` (R134): ignored. -/
def execWrUnmapped17 (_n : SockId) (_o : BitVec 1) (_v : Byte) (s : State) : Result := .next (answerNone s)

/-- `RD_UNMAPPED_18` (R133): a draw. -/
def execRdUnmapped18 (n : SockId) (o : BitVec 2) (s : State) : Result :=
  .next (drawUnmapped (sockAddr n (0x5#6 ++ o)) s)

/-- `WR_UNMAPPED_18` (R134): ignored. -/
def execWrUnmapped18 (_n : SockId) (_o : BitVec 2) (_v : Byte) (s : State) : Result := .next (answerNone s)

/-- `RD_UNMAPPED_19` (R133): a draw. -/
def execRdUnmapped19 (n : SockId) (o : BitVec 3) (s : State) : Result :=
  .next (drawUnmapped (sockAddr n (0x3#5 ++ o)) s)

/-- `WR_UNMAPPED_19` (R134): ignored. -/
def execWrUnmapped19 (_n : SockId) (_o : BitVec 3) (_v : Byte) (s : State) : Result := .next (answerNone s)

/-- `RD_UNMAPPED_20` (R133): a draw. -/
def execRdUnmapped20 (n : SockId) (o : BitVec 1) (s : State) : Result :=
  .next (drawUnmapped (sockAddr n (0x15#7 ++ o)) s)

/-- `WR_UNMAPPED_20` (R134): ignored. -/
def execWrUnmapped20 (_n : SockId) (_o : BitVec 1) (_v : Byte) (s : State) : Result := .next (answerNone s)

/-- `RD_UNMAPPED_21` (R133): a draw. -/
def execRdUnmapped21 (n : SockId) (o : BitVec 2) (s : State) : Result :=
  .next (drawUnmapped (sockAddr n (0xB#6 ++ o)) s)

/-- `WR_UNMAPPED_21` (R134): ignored. -/
def execWrUnmapped21 (_n : SockId) (_o : BitVec 2) (_v : Byte) (s : State) : Result := .next (answerNone s)

/-- `RD_UNMAPPED_22` (R133): a draw. -/
def execRdUnmapped22 (n : SockId) (o : BitVec 4) (s : State) : Result :=
  .next (drawUnmapped (sockAddr n (0x3#4 ++ o)) s)

/-- `WR_UNMAPPED_22` (R134): ignored. -/
def execWrUnmapped22 (_n : SockId) (_o : BitVec 4) (_v : Byte) (s : State) : Result := .next (answerNone s)

/-- `RD_UNMAPPED_23` (R133): a draw. -/
def execRdUnmapped23 (n : SockId) (o : BitVec 6) (s : State) : Result :=
  .next (drawUnmapped (sockAddr n (0x1#2 ++ o)) s)

/-- `WR_UNMAPPED_23` (R134): ignored. -/
def execWrUnmapped23 (_n : SockId) (_o : BitVec 6) (_v : Byte) (s : State) : Result := .next (answerNone s)

/-- `RD_UNMAPPED_24` (R133): a draw. -/
def execRdUnmapped24 (n : SockId) (o : BitVec 7) (s : State) : Result :=
  .next (drawUnmapped (sockAddr n (0x1#1 ++ o)) s)

/-- `WR_UNMAPPED_24` (R134): ignored. -/
def execWrUnmapped24 (_n : SockId) (_o : BitVec 7) (_v : Byte) (s : State) : Result := .next (answerNone s)

end Sys2Proof.Machine
end

