-- ==== Sys2Proof/Machine/Internal.lean ====
section
/-! DEFINITION. The internal decode level: `MemRead` and `MemWrite` of spec/41_register_access.md R131 and R132, dispatched by
the decoder of spec/30_encoding.md R109. -/

namespace Sys2Proof.Machine


/-- R87, R109: the meaning of an internal access. The host bus issues internal accesses only, so the last arms are
never reached. -/
def execInternal (i : Instr) (s : State) : Result :=
  match i with
  | .rdMr => execRdMr s
  | .wrMr v => execWrMr v s
  | .rdGwr0 => execRdGwr0 s
  | .wrGwr0 v => execWrGwr0 v s
  | .rdGwr1 => execRdGwr1 s
  | .wrGwr1 v => execWrGwr1 v s
  | .rdGwr2 => execRdGwr2 s
  | .wrGwr2 v => execWrGwr2 v s
  | .rdGwr3 => execRdGwr3 s
  | .wrGwr3 v => execWrGwr3 v s
  | .rdSubr0 => execRdSubr0 s
  | .wrSubr0 v => execWrSubr0 v s
  | .rdSubr1 => execRdSubr1 s
  | .wrSubr1 v => execWrSubr1 v s
  | .rdSubr2 => execRdSubr2 s
  | .wrSubr2 v => execWrSubr2 v s
  | .rdSubr3 => execRdSubr3 s
  | .wrSubr3 v => execWrSubr3 v s
  | .rdShar0 => execRdShar0 s
  | .wrShar0 v => execWrShar0 v s
  | .rdShar1 => execRdShar1 s
  | .wrShar1 v => execWrShar1 v s
  | .rdShar2 => execRdShar2 s
  | .wrShar2 v => execWrShar2 v s
  | .rdShar3 => execRdShar3 s
  | .wrShar3 v => execWrShar3 v s
  | .rdShar4 => execRdShar4 s
  | .wrShar4 v => execWrShar4 v s
  | .rdShar5 => execRdShar5 s
  | .wrShar5 v => execWrShar5 v s
  | .rdSipr0 => execRdSipr0 s
  | .wrSipr0 v => execWrSipr0 v s
  | .rdSipr1 => execRdSipr1 s
  | .wrSipr1 v => execWrSipr1 v s
  | .rdSipr2 => execRdSipr2 s
  | .wrSipr2 v => execWrSipr2 v s
  | .rdSipr3 => execRdSipr3 s
  | .wrSipr3 v => execWrSipr3 v s
  | .rdIr => execRdIr s
  | .wrIr v => execWrIr v s
  | .rdImr => execRdImr s
  | .wrImr v => execWrImr v s
  | .rdRmsr => execRdRmsr s
  | .wrRmsr v => execWrRmsr v s
  | .rdTmsr => execRdTmsr s
  | .wrTmsr v => execWrTmsr v s
  | .rdSnMr n => execRdSnMr n s
  | .wrSnMr n v => execWrSnMr n v s
  | .rdSnCr n => execRdSnCr n s
  | .rdSnIr n => execRdSnIr n s
  | .wrSnIr n v => execWrSnIr n v s
  | .rdSnSr n => execRdSnSr n s
  | .wrSnSr n v => execWrSnSr n v s
  | .rdSnPort0 n => execRdSnPort0 n s
  | .wrSnPort0 n v => execWrSnPort0 n v s
  | .rdSnPort1 n => execRdSnPort1 n s
  | .wrSnPort1 n v => execWrSnPort1 n v s
  | .rdSnDipr0 n => execRdSnDipr0 n s
  | .wrSnDipr0 n v => execWrSnDipr0 n v s
  | .rdSnDipr1 n => execRdSnDipr1 n s
  | .wrSnDipr1 n v => execWrSnDipr1 n v s
  | .rdSnDipr2 n => execRdSnDipr2 n s
  | .wrSnDipr2 n v => execWrSnDipr2 n v s
  | .rdSnDipr3 n => execRdSnDipr3 n s
  | .wrSnDipr3 n v => execWrSnDipr3 n v s
  | .rdSnDport0 n => execRdSnDport0 n s
  | .wrSnDport0 n v => execWrSnDport0 n v s
  | .rdSnDport1 n => execRdSnDport1 n s
  | .wrSnDport1 n v => execWrSnDport1 n v s
  | .rdSnTxFsr0 n => execRdSnTxFsr0 n s
  | .wrSnTxFsr0 n v => execWrSnTxFsr0 n v s
  | .rdSnTxFsr1 n => execRdSnTxFsr1 n s
  | .wrSnTxFsr1 n v => execWrSnTxFsr1 n v s
  | .rdSnTxRr0 n => execRdSnTxRr0 n s
  | .wrSnTxRr0 n v => execWrSnTxRr0 n v s
  | .rdSnTxRr1 n => execRdSnTxRr1 n s
  | .wrSnTxRr1 n v => execWrSnTxRr1 n v s
  | .rdSnTxWr0 n => execRdSnTxWr0 n s
  | .wrSnTxWr0 n v => execWrSnTxWr0 n v s
  | .rdSnTxWr1 n => execRdSnTxWr1 n s
  | .wrSnTxWr1 n v => execWrSnTxWr1 n v s
  | .rdSnRxRsr0 n => execRdSnRxRsr0 n s
  | .wrSnRxRsr0 n v => execWrSnRxRsr0 n v s
  | .rdSnRxRsr1 n => execRdSnRxRsr1 n s
  | .wrSnRxRsr1 n v => execWrSnRxRsr1 n v s
  | .rdSnRxRd0 n => execRdSnRxRd0 n s
  | .wrSnRxRd0 n v => execWrSnRxRd0 n v s
  | .rdSnRxRd1 n => execRdSnRxRd1 n s
  | .wrSnRxRd1 n v => execWrSnRxRd1 n v s
  | .cmdOpen n => execCmdOpen n s
  | .cmdListen n => execCmdListen n s
  | .cmdConnect n => execCmdConnect n s
  | .cmdDiscon n => execCmdDiscon n s
  | .cmdClose n => execCmdClose n s
  | .cmdSend n => execCmdSend n s
  | .cmdRecv n => execCmdRecv n s
  | .cmdInvalid n v => execCmdInvalid n v s
  | .rdTxbuf n o => execRdTxbuf n o s
  | .wrTxbuf n o v => execWrTxbuf n o v s
  | .rdRxbuf n o => execRdRxbuf n o s
  | .wrRxbuf n o v => execWrRxbuf n o v s
  | .rdUnmapped00 => execRdUnmapped00 s
  | .wrUnmapped00 v => execWrUnmapped00 v s
  | .rdUnmapped01 => execRdUnmapped01 s
  | .wrUnmapped01 v => execWrUnmapped01 v s
  | .rdUnmapped02 => execRdUnmapped02 s
  | .wrUnmapped02 v => execWrUnmapped02 v s
  | .rdUnmapped03 o => execRdUnmapped03 o s
  | .wrUnmapped03 o v => execWrUnmapped03 o v s
  | .rdUnmapped04 o => execRdUnmapped04 o s
  | .wrUnmapped04 o v => execWrUnmapped04 o v s
  | .rdUnmapped05 o => execRdUnmapped05 o s
  | .wrUnmapped05 o v => execWrUnmapped05 o v s
  | .rdUnmapped06 o => execRdUnmapped06 o s
  | .wrUnmapped06 o v => execWrUnmapped06 o v s
  | .rdUnmapped07 o => execRdUnmapped07 o s
  | .wrUnmapped07 o v => execWrUnmapped07 o v s
  | .rdUnmapped08 o => execRdUnmapped08 o s
  | .wrUnmapped08 o v => execWrUnmapped08 o v s
  | .rdUnmapped09 o => execRdUnmapped09 o s
  | .wrUnmapped09 o v => execWrUnmapped09 o v s
  | .rdUnmapped10 o => execRdUnmapped10 o s
  | .wrUnmapped10 o v => execWrUnmapped10 o v s
  | .rdUnmapped11 o => execRdUnmapped11 o s
  | .wrUnmapped11 o v => execWrUnmapped11 o v s
  | .rdUnmapped12 o => execRdUnmapped12 o s
  | .wrUnmapped12 o v => execWrUnmapped12 o v s
  | .rdUnmapped13 o => execRdUnmapped13 o s
  | .wrUnmapped13 o v => execWrUnmapped13 o v s
  | .rdUnmapped14 o => execRdUnmapped14 o s
  | .wrUnmapped14 o v => execWrUnmapped14 o v s
  | .rdUnmapped15 n o => execRdUnmapped15 n o s
  | .wrUnmapped15 n o v => execWrUnmapped15 n o v s
  | .rdUnmapped16 n o => execRdUnmapped16 n o s
  | .wrUnmapped16 n o v => execWrUnmapped16 n o v s
  | .rdUnmapped17 n o => execRdUnmapped17 n o s
  | .wrUnmapped17 n o v => execWrUnmapped17 n o v s
  | .rdUnmapped18 n o => execRdUnmapped18 n o s
  | .wrUnmapped18 n o v => execWrUnmapped18 n o v s
  | .rdUnmapped19 n o => execRdUnmapped19 n o s
  | .wrUnmapped19 n o v => execWrUnmapped19 n o v s
  | .rdUnmapped20 n o => execRdUnmapped20 n o s
  | .wrUnmapped20 n o v => execWrUnmapped20 n o v s
  | .rdUnmapped21 n o => execRdUnmapped21 n o s
  | .wrUnmapped21 n o v => execWrUnmapped21 n o v s
  | .rdUnmapped22 n o => execRdUnmapped22 n o s
  | .wrUnmapped22 n o v => execWrUnmapped22 n o v s
  | .rdUnmapped23 n o => execRdUnmapped23 n o s
  | .wrUnmapped23 n o v => execWrUnmapped23 n o v s
  | .rdUnmapped24 n o => execRdUnmapped24 n o s
  | .wrUnmapped24 n o v => execWrUnmapped24 n o v s
  | .hrdDirect _ | .hwrDirect _ _ | .hrdMrInd _ | .hwrMrInd _ _ | .hrdIdmAr0 _ | .hwrIdmAr0 _ _ | .hrdIdmAr1 _
  | .hwrIdmAr1 _ _ | .hrdIdmDr _ | .hwrIdmDr _ _ | .tick | .reset => .refused .notInternal

/-- R131: `MemRead(a, 1)`. -/
def memRead (a : Word) (s : State) : Result := execInternal (decodeInternal false a 0x00#8) s

/-- R132: `MemWrite(a, 1, v)`. -/
def memWrite (a : Word) (v : Byte) (s : State) : Result := execInternal (decodeInternal true a v) s

end Sys2Proof.Machine
end

