-- ==== Sys2Proof/Machine/HostBus.lean ====
section
/-! DEFINITION. Meanings of the host transactions (spec/40_bus_interface.md R111 to R122): the direct accesses and the
indirect addressing shim. The addressing mode is sampled by the decoder at the start of the transaction (R113). -/

namespace Sys2Proof.Machine

/-- What follows an access that answers a next state. -/
def afterAccess (f : State → State) (r : Result) : Result :=
  match r with
  | .next t => .next (f t)
  | .fault e => .fault e
  | .refused e => .refused e

/-- `HRD_DIRECT` (R111). -/
def execHrdDirect (h : Word) (s : State) : Result := memRead h s

/-- `HWR_DIRECT` (R111). -/
def execHwrDirect (h : Word) (v : Byte) (s : State) : Result := memWrite h v s

/-- `HRD_MR_IND` (R114). -/
def execHrdMrInd (s : State) : Result := memRead 0x0000#16 s

/-- `HWR_MR_IND` (R115). -/
def execHwrMrInd (v : Byte) (s : State) : Result := memWrite 0x0000#16 v s

/-- `HRD_IDM_AR0` (R116): the high half of the indirect address register. -/
def execHrdIdmAr0 (s : State) : Result := .next (answerRead (hiByte s.idmAr) s)

/-- `HWR_IDM_AR0` (R116). -/
def execHwrIdmAr0 (v : Byte) (s : State) : Result := .next (answerNone { s with idmAr := withHi s.idmAr v })

/-- `HRD_IDM_AR1` (R117): the low half of the indirect address register. -/
def execHrdIdmAr1 (s : State) : Result := .next (answerRead (loByte s.idmAr) s)

/-- `HWR_IDM_AR1` (R117). -/
def execHwrIdmAr1 (v : Byte) (s : State) : Result := .next (answerNone { s with idmAr := withLo s.idmAr v })

/-- `HRD_IDM_DR` (R118, R119): AI and the target are sampled before the access. -/
def execHrdIdmDr (s : State) : Result := afterAccess (autoInc (aiBit s.mr) false) (memRead s.idmAr s)

/-- `HWR_IDM_DR` (R118, R119): no increment after a soft reset or a raised model fault. -/
def execHwrIdmDr (v : Byte) (s : State) : Result :=
  afterAccess (autoInc (aiBit s.mr) (writeResets s.idmAr v || writeFaults s.idmAr v s)) (memWrite s.idmAr v s)

end Sys2Proof.Machine
end

