-- ==== Sys2Proof/Machine/Dispatch.lean ====
section
/-! DEFINITION. The dispatch: one arm per constructor of Instr, in the order of spec/opcode_table.json. -/

namespace Sys2Proof.Machine

def exec (i : Instr) (s : State) : Host.Outcome State Fault Refusal :=
  match i with
  | .hrdDirect h => Sys2Proof.Machine.execHrdDirect h s
  | .hwrDirect h v => Sys2Proof.Machine.execHwrDirect h v s
  | .hrdMrInd _ => Sys2Proof.Machine.execHrdMrInd s
  | .hwrMrInd _ v => Sys2Proof.Machine.execHwrMrInd v s
  | .hrdIdmAr0 _ => Sys2Proof.Machine.execHrdIdmAr0 s
  | .hwrIdmAr0 _ v => Sys2Proof.Machine.execHwrIdmAr0 v s
  | .hrdIdmAr1 _ => Sys2Proof.Machine.execHrdIdmAr1 s
  | .hwrIdmAr1 _ v => Sys2Proof.Machine.execHwrIdmAr1 v s
  | .hrdIdmDr _ => Sys2Proof.Machine.execHrdIdmDr s
  | .hwrIdmDr _ v => Sys2Proof.Machine.execHwrIdmDr v s
  | .rdMr => Sys2Proof.Machine.execRdMr s
  | .wrMr v => Sys2Proof.Machine.execWrMr v s
  | .rdGwr0 => Sys2Proof.Machine.execRdGwr0 s
  | .wrGwr0 v => Sys2Proof.Machine.execWrGwr0 v s
  | .rdGwr1 => Sys2Proof.Machine.execRdGwr1 s
  | .wrGwr1 v => Sys2Proof.Machine.execWrGwr1 v s
  | .rdGwr2 => Sys2Proof.Machine.execRdGwr2 s
  | .wrGwr2 v => Sys2Proof.Machine.execWrGwr2 v s
  | .rdGwr3 => Sys2Proof.Machine.execRdGwr3 s
  | .wrGwr3 v => Sys2Proof.Machine.execWrGwr3 v s
  | .rdSubr0 => Sys2Proof.Machine.execRdSubr0 s
  | .wrSubr0 v => Sys2Proof.Machine.execWrSubr0 v s
  | .rdSubr1 => Sys2Proof.Machine.execRdSubr1 s
  | .wrSubr1 v => Sys2Proof.Machine.execWrSubr1 v s
  | .rdSubr2 => Sys2Proof.Machine.execRdSubr2 s
  | .wrSubr2 v => Sys2Proof.Machine.execWrSubr2 v s
  | .rdSubr3 => Sys2Proof.Machine.execRdSubr3 s
  | .wrSubr3 v => Sys2Proof.Machine.execWrSubr3 v s
  | .rdShar0 => Sys2Proof.Machine.execRdShar0 s
  | .wrShar0 v => Sys2Proof.Machine.execWrShar0 v s
  | .rdShar1 => Sys2Proof.Machine.execRdShar1 s
  | .wrShar1 v => Sys2Proof.Machine.execWrShar1 v s
  | .rdShar2 => Sys2Proof.Machine.execRdShar2 s
  | .wrShar2 v => Sys2Proof.Machine.execWrShar2 v s
  | .rdShar3 => Sys2Proof.Machine.execRdShar3 s
  | .wrShar3 v => Sys2Proof.Machine.execWrShar3 v s
  | .rdShar4 => Sys2Proof.Machine.execRdShar4 s
  | .wrShar4 v => Sys2Proof.Machine.execWrShar4 v s
  | .rdShar5 => Sys2Proof.Machine.execRdShar5 s
  | .wrShar5 v => Sys2Proof.Machine.execWrShar5 v s
  | .rdSipr0 => Sys2Proof.Machine.execRdSipr0 s
  | .wrSipr0 v => Sys2Proof.Machine.execWrSipr0 v s
  | .rdSipr1 => Sys2Proof.Machine.execRdSipr1 s
  | .wrSipr1 v => Sys2Proof.Machine.execWrSipr1 v s
  | .rdSipr2 => Sys2Proof.Machine.execRdSipr2 s
  | .wrSipr2 v => Sys2Proof.Machine.execWrSipr2 v s
  | .rdSipr3 => Sys2Proof.Machine.execRdSipr3 s
  | .wrSipr3 v => Sys2Proof.Machine.execWrSipr3 v s
  | .rdIr => Sys2Proof.Machine.execRdIr s
  | .wrIr v => Sys2Proof.Machine.execWrIr v s
  | .rdImr => Sys2Proof.Machine.execRdImr s
  | .wrImr v => Sys2Proof.Machine.execWrImr v s
  | .rdRmsr => Sys2Proof.Machine.execRdRmsr s
  | .wrRmsr v => Sys2Proof.Machine.execWrRmsr v s
  | .rdTmsr => Sys2Proof.Machine.execRdTmsr s
  | .wrTmsr v => Sys2Proof.Machine.execWrTmsr v s
  | .rdSnMr n => Sys2Proof.Machine.execRdSnMr n s
  | .wrSnMr n v => Sys2Proof.Machine.execWrSnMr n v s
  | .rdSnCr n => Sys2Proof.Machine.execRdSnCr n s
  | .rdSnIr n => Sys2Proof.Machine.execRdSnIr n s
  | .wrSnIr n v => Sys2Proof.Machine.execWrSnIr n v s
  | .rdSnSr n => Sys2Proof.Machine.execRdSnSr n s
  | .wrSnSr n v => Sys2Proof.Machine.execWrSnSr n v s
  | .rdSnPort0 n => Sys2Proof.Machine.execRdSnPort0 n s
  | .wrSnPort0 n v => Sys2Proof.Machine.execWrSnPort0 n v s
  | .rdSnPort1 n => Sys2Proof.Machine.execRdSnPort1 n s
  | .wrSnPort1 n v => Sys2Proof.Machine.execWrSnPort1 n v s
  | .rdSnDipr0 n => Sys2Proof.Machine.execRdSnDipr0 n s
  | .wrSnDipr0 n v => Sys2Proof.Machine.execWrSnDipr0 n v s
  | .rdSnDipr1 n => Sys2Proof.Machine.execRdSnDipr1 n s
  | .wrSnDipr1 n v => Sys2Proof.Machine.execWrSnDipr1 n v s
  | .rdSnDipr2 n => Sys2Proof.Machine.execRdSnDipr2 n s
  | .wrSnDipr2 n v => Sys2Proof.Machine.execWrSnDipr2 n v s
  | .rdSnDipr3 n => Sys2Proof.Machine.execRdSnDipr3 n s
  | .wrSnDipr3 n v => Sys2Proof.Machine.execWrSnDipr3 n v s
  | .rdSnDport0 n => Sys2Proof.Machine.execRdSnDport0 n s
  | .wrSnDport0 n v => Sys2Proof.Machine.execWrSnDport0 n v s
  | .rdSnDport1 n => Sys2Proof.Machine.execRdSnDport1 n s
  | .wrSnDport1 n v => Sys2Proof.Machine.execWrSnDport1 n v s
  | .rdSnTxFsr0 n => Sys2Proof.Machine.execRdSnTxFsr0 n s
  | .wrSnTxFsr0 n v => Sys2Proof.Machine.execWrSnTxFsr0 n v s
  | .rdSnTxFsr1 n => Sys2Proof.Machine.execRdSnTxFsr1 n s
  | .wrSnTxFsr1 n v => Sys2Proof.Machine.execWrSnTxFsr1 n v s
  | .rdSnTxRr0 n => Sys2Proof.Machine.execRdSnTxRr0 n s
  | .wrSnTxRr0 n v => Sys2Proof.Machine.execWrSnTxRr0 n v s
  | .rdSnTxRr1 n => Sys2Proof.Machine.execRdSnTxRr1 n s
  | .wrSnTxRr1 n v => Sys2Proof.Machine.execWrSnTxRr1 n v s
  | .rdSnTxWr0 n => Sys2Proof.Machine.execRdSnTxWr0 n s
  | .wrSnTxWr0 n v => Sys2Proof.Machine.execWrSnTxWr0 n v s
  | .rdSnTxWr1 n => Sys2Proof.Machine.execRdSnTxWr1 n s
  | .wrSnTxWr1 n v => Sys2Proof.Machine.execWrSnTxWr1 n v s
  | .rdSnRxRsr0 n => Sys2Proof.Machine.execRdSnRxRsr0 n s
  | .wrSnRxRsr0 n v => Sys2Proof.Machine.execWrSnRxRsr0 n v s
  | .rdSnRxRsr1 n => Sys2Proof.Machine.execRdSnRxRsr1 n s
  | .wrSnRxRsr1 n v => Sys2Proof.Machine.execWrSnRxRsr1 n v s
  | .rdSnRxRd0 n => Sys2Proof.Machine.execRdSnRxRd0 n s
  | .wrSnRxRd0 n v => Sys2Proof.Machine.execWrSnRxRd0 n v s
  | .rdSnRxRd1 n => Sys2Proof.Machine.execRdSnRxRd1 n s
  | .wrSnRxRd1 n v => Sys2Proof.Machine.execWrSnRxRd1 n v s
  | .cmdOpen n => Sys2Proof.Machine.execCmdOpen n s
  | .cmdListen n => Sys2Proof.Machine.execCmdListen n s
  | .cmdConnect n => Sys2Proof.Machine.execCmdConnect n s
  | .cmdDiscon n => Sys2Proof.Machine.execCmdDiscon n s
  | .cmdClose n => Sys2Proof.Machine.execCmdClose n s
  | .cmdSend n => Sys2Proof.Machine.execCmdSend n s
  | .cmdRecv n => Sys2Proof.Machine.execCmdRecv n s
  | .cmdInvalid n v => Sys2Proof.Machine.execCmdInvalid n v s
  | .rdTxbuf n o => Sys2Proof.Machine.execRdTxbuf n o s
  | .wrTxbuf n o v => Sys2Proof.Machine.execWrTxbuf n o v s
  | .rdRxbuf n o => Sys2Proof.Machine.execRdRxbuf n o s
  | .wrRxbuf n o v => Sys2Proof.Machine.execWrRxbuf n o v s
  | .rdUnmapped00 => Sys2Proof.Machine.execRdUnmapped00 s
  | .wrUnmapped00 v => Sys2Proof.Machine.execWrUnmapped00 v s
  | .rdUnmapped01 => Sys2Proof.Machine.execRdUnmapped01 s
  | .wrUnmapped01 v => Sys2Proof.Machine.execWrUnmapped01 v s
  | .rdUnmapped02 => Sys2Proof.Machine.execRdUnmapped02 s
  | .wrUnmapped02 v => Sys2Proof.Machine.execWrUnmapped02 v s
  | .rdUnmapped03 o => Sys2Proof.Machine.execRdUnmapped03 o s
  | .wrUnmapped03 o v => Sys2Proof.Machine.execWrUnmapped03 o v s
  | .rdUnmapped04 o => Sys2Proof.Machine.execRdUnmapped04 o s
  | .wrUnmapped04 o v => Sys2Proof.Machine.execWrUnmapped04 o v s
  | .rdUnmapped05 o => Sys2Proof.Machine.execRdUnmapped05 o s
  | .wrUnmapped05 o v => Sys2Proof.Machine.execWrUnmapped05 o v s
  | .rdUnmapped06 o => Sys2Proof.Machine.execRdUnmapped06 o s
  | .wrUnmapped06 o v => Sys2Proof.Machine.execWrUnmapped06 o v s
  | .rdUnmapped07 o => Sys2Proof.Machine.execRdUnmapped07 o s
  | .wrUnmapped07 o v => Sys2Proof.Machine.execWrUnmapped07 o v s
  | .rdUnmapped08 o => Sys2Proof.Machine.execRdUnmapped08 o s
  | .wrUnmapped08 o v => Sys2Proof.Machine.execWrUnmapped08 o v s
  | .rdUnmapped09 o => Sys2Proof.Machine.execRdUnmapped09 o s
  | .wrUnmapped09 o v => Sys2Proof.Machine.execWrUnmapped09 o v s
  | .rdUnmapped10 o => Sys2Proof.Machine.execRdUnmapped10 o s
  | .wrUnmapped10 o v => Sys2Proof.Machine.execWrUnmapped10 o v s
  | .rdUnmapped11 o => Sys2Proof.Machine.execRdUnmapped11 o s
  | .wrUnmapped11 o v => Sys2Proof.Machine.execWrUnmapped11 o v s
  | .rdUnmapped12 o => Sys2Proof.Machine.execRdUnmapped12 o s
  | .wrUnmapped12 o v => Sys2Proof.Machine.execWrUnmapped12 o v s
  | .rdUnmapped13 o => Sys2Proof.Machine.execRdUnmapped13 o s
  | .wrUnmapped13 o v => Sys2Proof.Machine.execWrUnmapped13 o v s
  | .rdUnmapped14 o => Sys2Proof.Machine.execRdUnmapped14 o s
  | .wrUnmapped14 o v => Sys2Proof.Machine.execWrUnmapped14 o v s
  | .rdUnmapped15 n o => Sys2Proof.Machine.execRdUnmapped15 n o s
  | .wrUnmapped15 n o v => Sys2Proof.Machine.execWrUnmapped15 n o v s
  | .rdUnmapped16 n o => Sys2Proof.Machine.execRdUnmapped16 n o s
  | .wrUnmapped16 n o v => Sys2Proof.Machine.execWrUnmapped16 n o v s
  | .rdUnmapped17 n o => Sys2Proof.Machine.execRdUnmapped17 n o s
  | .wrUnmapped17 n o v => Sys2Proof.Machine.execWrUnmapped17 n o v s
  | .rdUnmapped18 n o => Sys2Proof.Machine.execRdUnmapped18 n o s
  | .wrUnmapped18 n o v => Sys2Proof.Machine.execWrUnmapped18 n o v s
  | .rdUnmapped19 n o => Sys2Proof.Machine.execRdUnmapped19 n o s
  | .wrUnmapped19 n o v => Sys2Proof.Machine.execWrUnmapped19 n o v s
  | .rdUnmapped20 n o => Sys2Proof.Machine.execRdUnmapped20 n o s
  | .wrUnmapped20 n o v => Sys2Proof.Machine.execWrUnmapped20 n o v s
  | .rdUnmapped21 n o => Sys2Proof.Machine.execRdUnmapped21 n o s
  | .wrUnmapped21 n o v => Sys2Proof.Machine.execWrUnmapped21 n o v s
  | .rdUnmapped22 n o => Sys2Proof.Machine.execRdUnmapped22 n o s
  | .wrUnmapped22 n o v => Sys2Proof.Machine.execWrUnmapped22 n o v s
  | .rdUnmapped23 n o => Sys2Proof.Machine.execRdUnmapped23 n o s
  | .wrUnmapped23 n o v => Sys2Proof.Machine.execWrUnmapped23 n o v s
  | .rdUnmapped24 n o => Sys2Proof.Machine.execRdUnmapped24 n o s
  | .wrUnmapped24 n o v => Sys2Proof.Machine.execWrUnmapped24 n o v s
  | .tick => Sys2Proof.Machine.execTick s
  | .reset => Sys2Proof.Machine.execReset s

end Sys2Proof.Machine
end

