-- ==== Sys2Proof/Machine/Fetch.lean ====
section
/-! DEFINITION. Taking the next transaction (spec/30_encoding.md R86 to R88; spec/40_bus_interface.md R113). -/

namespace Sys2Proof.Machine

/-- The state once the pending transaction is taken from the queue (log 9). -/
def State.taken (s : State) : State := { s with busIn := s.busIn.tail }

/-- R88, R113: what a transaction is in this state; `G.MR.IND` is sampled at its start. -/
def State.decodes (s : State) (t : Transaction) : Except DecodeError Instr :=
  decode s.params.indHostDecode (indBit s.mr) t

/-- What the block is to do next. -/
inductive Fetched where
  /-- No transaction is pending. -/
  | idle
  /-- The pending word spells no transaction (R108 f). -/
  | bad (e : DecodeError)
  /-- The pending transaction. -/
  | run (i : Instr)
deriving DecidableEq, Repr

/-- The pending transaction, decoded. -/
def fetch (s : State) : Fetched :=
  match s.busIn with
  | [] => .idle
  | t :: _ =>
    match s.decodes t with
    | .ok i => .run i
    | .error e => .bad e

/-- The state with a transaction placed first in the queue. -/
def State.withNext (s : State) (t : Transaction) : State := { s with busIn := t :: s.busIn }

end Sys2Proof.Machine
end

