-- ==== Sys2Proof/Machine/Step.lean ====
section
/-! DEFINITION. One step of the block: the next pending transaction, run whole (spec/20_memory.md R71, R72). -/

namespace Sys2Proof.Machine

/-- One step. With nothing pending the block does nothing (R295, log 9). -/
def step (s : State) : Host.Outcome State Fault Refusal :=
  match fetch s with
  | .idle => .next s
  | .bad e => .refused (.reservedWord e)
  | .run i => exec i s.taken

/-- The state with the transaction of a table word placed where `step` takes its next one (log 9, log 11). -/
def State.withFetchWord (s : State) (nbits w : Nat) : State := s.withNext (tableTransaction nbits w)

end Sys2Proof.Machine
end

