-- ==== Sys2Proof/Safety.lean ====
section
/-! DEFINITION. What a well-formed state is and which states a run reaches: the terms the claims use. -/

namespace Sys2Proof.Machine

/-- R34: a descriptor is present exactly when the socket is not Closed. -/
def Socket.fdOk (k : Socket) : Bool := k.fd.isSome == (k.state != .closed)

/-- R23, R163: the mode register holds 0x00 or a byte of `SN_MR_ACCEPT`. -/
def Socket.modeOk (p : Params) (k : Socket) : Bool := k.mr == 0x00#8 || p.snMrAccept.contains k.mr

/-- R190: a bound socket has a descriptor, and the write counter stays in its range (R9). -/
def Socket.bindOk (k : Socket) : Bool := (!k.bound || k.fd.isSome) && decide (k.bwc ≤ 2)

/-- R35 (a): `0 ≤ rxAvail ≤ 2048`. -/
def Socket.rxOk (k : Socket) : Bool := decide (k.rxAvail ≤ bufSize)

/-- R35 (d): at most 32 datagram lengths are queued, and only a Udp socket queues any. -/
def Socket.dgqOk (k : Socket) : Bool := decide (k.dgq.length ≤ dgqCap) && (k.dgq.isEmpty || k.state == .udp)

/-- R194, R195, R190, R250: a flush is pending only where a SEND was accepted. -/
def Socket.pendingOk (k : Socket) : Bool :=
  !k.writePending || k.state == .established || k.state == .closeWait || k.state == .udp

/-- R278, R291: nothing times out, so the TIMEOUT bit reads 0. -/
def Socket.timeoutOk (k : Socket) : Bool := !k.ir.getLsbD 3

/-- R241: between steps no socket is being processed by a tick. -/
def Socket.idle (k : Socket) : Bool := !k.tickLive

/-- A well-formed socket. -/
def Socket.wf (p : Params) (k : Socket) : Bool :=
  k.fdOk && k.modeOk p && k.bindOk && k.rxOk && k.dgqOk && k.pendingOk && k.timeoutOk && k.idle

/-- R12: tokens are distinct while their descriptors are open, so two sockets never share one. -/
def State.fdsOk (s : State) : Prop :=
  ∀ n m f, (s.sock n).fd = some f → (s.sock m).fd = some f → n = m

/-- The invariant of the block: every socket well formed, MR bit 7 reading 0 (R24), the buffer memory canonical and
the descriptors distinct. -/
structure State.Inv (s : State) : Prop where
  sockets : ∀ n, (s.sock n).wf s.params = true
  modeBit : rstBit s.mr = false
  memory : Memory.wf s.mem = true
  descriptors : s.fdsOk

/-- A claim about the block takes an unfaulted state as its premise (R286). -/
def State.unfaulted (s : State) : Prop := s.fault = none

/-- The environment supplies transactions and network answers between steps (R7, R12). -/
def State.supply (s : State) (bus : List Transaction) (net : List NetAnswer) : State :=
  { s with busIn := bus, netIn := net }

/-- The states a block with given open parameters reaches: from power-up, by steps, under any environment. -/
inductive Reachable (p : Params) : State → Prop where
  | powerUp : Reachable p { State.reset with params := p }
  | supplied (s : State) (bus : List Transaction) (net : List NetAnswer) : Reachable p s → Reachable p (s.supply bus net)
  | stepped (s t : State) : Reachable p s → step s = .next t → Reachable p t

/-- The state after a transaction that returns no data: socket `n` is now `k`, the requests `reqs` were issued (most
recent first), the answers `net` are left, and nothing else has changed. -/
def State.afterRequests (s : State) (n : SockId) (k : Socket) (reqs : List NetRequest) (net : List NetAnswer) : State :=
  { s with socks := s.socks.set n k, netOut := reqs ++ s.netOut, netIn := net, busRdata := none }

/-- Socket `n` has the descriptor `f`, every other socket is without one, and no tick is under way. -/
def State.onlyOpen (s : State) (n : SockId) (f : Fd) : Prop :=
  (s.sock n).fd = some f ∧ (∀ m, m ≠ n → (s.sock m).fd = none) ∧ ∀ m, (s.sock m).tickLive = false

/-- With memory `m` for the memory of `s`, the bytes `b` stand in the RX ring of socket `n` behind the data it holds
(R219, R220), and every other byte of the buffers reads as it does in `s`. -/
def State.rxStored (s : State) (n : SockId) (b : List Byte) (m : Memory) : Prop :=
  (∀ i, i < b.length →
    some (({ s with mem := m } : State).bufByte
      (0x6000 + n.val * 0x800 + ((s.sock n).oldRxRD.toNat + (s.sock n).rxAvail + i) % 2048)) = b[i]?) ∧
  (∀ a, (∀ i, i < b.length →
      a ≠ 0x6000 + n.val * 0x800 + ((s.sock n).oldRxRD.toNat + (s.sock n).rxAvail + i) % 2048) →
    ({ s with mem := m } : State).bufByte a = s.bufByte a)

/-- The bytes `b` are the `len` bytes of the TX ring of socket `n` from its read pointer on (R214). -/
def State.txHolds (s : State) (n : SockId) (len : Nat) (b : List Byte) : Prop :=
  b.length = len ∧
  ∀ i, i < len → b[i]? = some (s.bufByte (0x4000 + n.val * 0x800 + ((s.sock n).txRR.toNat + i) % 2048))

/-- A datagram as it stands in the RX ring: the 8-byte pseudo-header, then the payload (R222). -/
def dgramImage (p : List Byte) (ip : Ip4) (port : Word) : List Byte :=
  [ip.e0, ip.e1, ip.e2, ip.e3, BitVec.ofNat 8 (port.toNat / 256), BitVec.ofNat 8 (port.toNat % 256),
    BitVec.ofNat 8 (p.length / 256), BitVec.ofNat 8 (p.length % 256)] ++ p

/-- The `NetReady` a tick asks of socket `n`, with `wantR` and `wantW`, if it has a descriptor and is a candidate
(R241, R242, R243). -/
def State.readyAsk (s : State) (n : SockId) : List NetRequest :=
  let r := decide (((s.sock n).state = .udp ∧ (s.sock n).rxAvail + 9 ≤ 2048) ∨
    (((s.sock n).state = .established ∨ (s.sock n).state = .closeWait) ∧ (s.sock n).rxAvail < 2048) ∨
    (s.sock n).state = .listen)
  let w := (s.sock n).writePending || decide ((s.sock n).state = .connecting)
  if (s.sock n).fd.isSome && (r || w) then [.ready (s.sock n).fd r w] else []

/-- The `NetReady` requests of a tick in which nothing is ready, sockets 0 to 3 in order, most recent first (R241). -/
def State.readyAsks (s : State) : List NetRequest := s.readyAsk 3 ++ s.readyAsk 2 ++ s.readyAsk 1 ++ s.readyAsk 0

/-- The turns of the sockets listed, in that order, each from the state the one before left; the model fault ends
them (R241, R286). -/
def turns (l : List SockId) (s : State) : Except State State :=
  match l with
  | [] => .ok s
  | n :: rest =>
    match tickSocket n s with
    | .ok t => turns rest t
    | .error t => .error t

/-- A request that closes a socket's descriptor, if it has one. -/
def closing (fd : Option Fd) : List NetRequest :=
  match fd with
  | some f => [.close f]
  | none => []

/-- The protocol of R106 and R171: what OPEN asks for and the state it leads to. -/
def opensAs (k : Socket) (kind : SockKind) (next : SockState) : Prop :=
  (protocol k = 1#4 ∧ kind = .stream ∧ next = .init) ∨ (protocol k = 2#4 ∧ kind = .dgram ∧ next = .udp)

end Sys2Proof.Machine
end

