-- ==== Sys2Proof/Certificates/Slice0/Obligations.lean ====
section
/-! DEFINITION. The statements for the provers. A state is any state of the block: a statement holds for every
network answer, open parameter and free value. -/

open Sys2Proof Sys2Proof.Machine

/-- For every addressing mode and host decode parameter, every well-formed instruction whose row admits that mode
decodes from its own encoding, with every operand at every value. Internal accesses are in the model's own packing
(notes/assumptions/10.md). It rests on the spec's own decisions D4, D7, D8, D10, D11, D13, D38
(spec/92_eei_decisions.md; notes/assumptions/5.md, 6.md, 13.md, 20.md). -/
def Obligations.DecodeOfEncodeIsTheInstruction : Prop :=
  ∀ (p : IndHostDecode) (ind : Bool) (i : Instr), i.wf = true → i.fits p ind = true →
    decode p ind (encode i) = .ok i

/-- Whatever word the decoder accepts is exactly the encoding of the instruction it reads; that instruction is well
formed and its row admits the addressing mode. So every word has one meaning and no bit of it is dropped. Internal
accesses are in the model's own packing (notes/assumptions/10.md). It rests on the spec's own decisions D4, D7, D8,
D10, D11, D13, D38 (spec/92_eei_decisions.md; notes/assumptions/5.md, 6.md, 13.md, 20.md). -/
def Obligations.EncodeOfDecodeIsTheWord : Prop :=
  ∀ (p : IndHostDecode) (ind : Bool) (t : Transaction) (i : Instr), decode p ind t = .ok i →
    encode i = t ∧ i.wf = true ∧ i.fits p ind = true

/-- Six host words, laid out as R86 says, decode to their instructions. So do four internal accesses of the internal
map, written in the model's own 32-bit packing: that packing is the model's choice (DESIGN CHOICE,
notes/assumptions/10.md) and stands in no table of the spec, which gives the pattern {we, a} and the data byte of
each access. It rests on the spec's own decisions D4, D8, D10, D11, D13, D38 (spec/92_eei_decisions.md;
notes/assumptions/6.md, 13.md, 20.md). -/
def Obligations.SampleWordsDecode : Prop :=
  decode .low2 false (.host 0x1000003#32) = .ok (.hwrDirect 0x0000#16 0x03#8) ∧
  decode .low2 true (.host 0x1000100#32) = .ok (.hwrIdmAr0 0#14 0x00#8) ∧
  decode .low2 true (.host 0x10003C0#32) = .ok (.hwrIdmDr 0#14 0xC0#8) ∧
  decode .low2 true (.host 0x0000200#32) = .ok (.hrdIdmAr1 0#14) ∧
  decode .low2 false (.host 0x2000000#32) = .ok .tick ∧
  decode .low2 false (.host 0x3000000#32) = .ok .reset ∧
  decode .low2 false (.internal 0x00000015#32) = .ok .rdIr ∧
  decode .low2 false (.internal 0x20010501#32) = .ok (.cmdSend 1) ∧
  decode .low2 false (.internal 0x03010601#32) = .ok (.cmdInvalid 2 0x03#8) ∧
  decode .low2 false (.internal 0x5A014FFF#32) = .ok (.wrTxbuf 1 0x7FF#11 0x5A#8)

/-- When the next pending transaction decodes, in the addressing mode sampled at its start, to an instruction, the
step is that instruction run on the state with the transaction taken from the queue. With none pending the step
leaves the whole state as it is: that an idle block steps at all is the model's choice (notes/assumptions/9.md). It
rests on the spec's own decisions D5, D36 (spec/92_eei_decisions.md; notes/assumptions/19.md, 20.md). -/
def Obligations.StepRunsTheDecodedTransaction : Prop :=
  (∀ (s : State) (t : Transaction) (rest : List Transaction) (i : Instr), s.busIn = t :: rest →
    decode s.params.indHostDecode (s.mr.getLsbD 0) t = .ok i → step s = exec i { s with busIn := rest }) ∧
  (∀ (s : State), s.busIn = [] → step s = .next s)

/-- A READ word with nonzero data, or a TICK or RESET word with nonzero addr or data, is refused by name. That the
model stops there is what R108 (f) says a model does. It rests on the spec's own decisions D7, D13, D38
(spec/92_eei_decisions.md; notes/assumptions/5.md, 13.md, 20.md). -/
def Obligations.ReservedWordsAreRefused : Prop :=
  ∀ (s : State) (op : BitVec 2) (h : Word) (v : Byte) (rest : List Transaction),
    s.busIn = .host (hostWord op h v) :: rest →
    (op = 0#2 ∧ v ≠ 0#8) ∨ ((op = 2#2 ∨ op = 3#2) ∧ (h ≠ 0#16 ∨ v ≠ 0#8)) →
    ∃ e, step s = .refused (.reservedWord e)

/-- In every state, a READ of any host address, a WRITE of any byte to any host address, a TICK and a RESET each
answer a next state. It rests on the spec's own decisions D7, D13, D36, D38 (spec/92_eei_decisions.md;
notes/assumptions/5.md, 13.md, 19.md, 20.md). -/
def Obligations.EveryTransactionOfTheBusCompletes : Prop :=
  ∀ (s : State) (h : Word) (v : Byte),
    (∃ t, step (s.withNext (.host (hostWord 0#2 h 0#8))) = .next t) ∧
    (∃ t, step (s.withNext (.host (hostWord 1#2 h v))) = .next t) ∧
    (∃ t, step (s.withNext (.host (hostWord 2#2 0#16 0#8))) = .next t) ∧
    (∃ t, step (s.withNext (.host (hostWord 3#2 0#16 0#8))) = .next t)

/-- HRD_DIRECT and HWR_DIRECT answer a next state, and it is the next state of the internal access at the same
address. -/
def Obligations.DirectTransactionsAreInternalAccesses : Prop :=
  ∀ (s : State) (h : Word) (v : Byte),
    (∃ t, exec (.hrdDirect h) s = .next t ∧ exec (decodeInternal false h 0#8) s = .next t) ∧
    (∃ t, exec (.hwrDirect h v) s = .next t ∧ exec (decodeInternal true h v) s = .next t)

/-- HRD_MR_IND answers MR and changes nothing; HWR_MR_IND of a byte with bit 7 clear stores it in MR and changes
nothing else; with bit 7 set it is WR_MR of that byte. Reading a half of the address register answers it and changes
nothing; writing a half replaces it, keeps the other half and changes nothing else. The high half first is D1
(notes/assumptions/7.md); that bit 7 resets and that bits 6:2 of MR are stored are D2 and D3
(notes/assumptions/8.md, PRESUMED). It rests on the spec's own decisions D1, D2, D3 (spec/92_eei_decisions.md;
notes/assumptions/7.md, 8.md). Model conventions: no read data after a transaction that returns none
(notes/assumptions/12.md). -/
def Obligations.ShimReachesModeAndAddressRegisters : Prop :=
  ∀ (s : State) (hi : BitVec 14) (v : Byte),
    exec (.hrdMrInd hi) s = .next { s with busRdata := some s.mr } ∧
    (v.getLsbD 7 = false → exec (.hwrMrInd hi v) s = .next { s with mr := v, busRdata := none }) ∧
    exec (.hwrMrInd hi v) s = exec (.wrMr v) s ∧
    (∃ b c, exec (.hrdIdmAr0 hi) s = .next { s with busRdata := some b } ∧
      exec (.hrdIdmAr1 hi) s = .next { s with busRdata := some c } ∧ s.idmAr.toNat = b.toNat * 256 + c.toNat) ∧
    (∃ w, exec (.hwrIdmAr0 hi v) s = .next { s with idmAr := w, busRdata := none } ∧
      w.toNat = v.toNat * 256 + s.idmAr.toNat % 256) ∧
    (∃ w, exec (.hwrIdmAr1 hi v) s = .next { s with idmAr := w, busRdata := none } ∧
      w.toNat = s.idmAr.toNat / 256 * 256 + v.toNat)

/-- HRD_IDM_DR answers what the internal read at the indirect address answers, and then advances the address by 1
modulo 2^16 exactly when AI is set. It rests on the spec's own decisions D5, D7 (spec/92_eei_decisions.md;
notes/assumptions/5.md, 20.md). -/
def Obligations.DataRegisterReadRedirectsAndIncrements : Prop :=
  ∀ (s : State) (hi : BitVec 14), ∃ t, exec (decodeInternal false s.idmAr 0#8) s = .next t ∧
    exec (.hrdIdmDr hi) s =
      .next { t with idmAr := if s.mr.getLsbD 1 then s.idmAr + 1#16 else s.idmAr }

/-- A write of IDM_DR that neither performs a soft reset nor raises the model fault is the internal write at the
indirect address followed by the auto-increment; one with target 0x0000 and bit 7 set is the soft reset, which
leaves MR and the indirect address at 0. A SEND through IDM_DR on a Udp socket with a full datagram queue raises
DGQ_OVERFLOW, keeps an earlier fault, and changes nothing else: no increment follows. That a raised model fault
suppresses the increment is the model's reading of R286 (notes/assumptions/14.md). It rests on the spec's own
decisions D2, D5, D24, D29, D34 (spec/92_eei_decisions.md; notes/assumptions/8.md, 15.md, 20.md, 21.md, 22.md).
Model conventions: no read data after a transaction that returns none (notes/assumptions/12.md). -/
def Obligations.DataRegisterWriteRedirectsAndIncrements : Prop :=
  ∀ (s : State) (hi : BitVec 14) (v : Byte),
    (¬ (s.idmAr = 0#16 ∧ v.getLsbD 7 = true) → writeFaults s.idmAr v s = false →
      ∃ t, exec (decodeInternal true s.idmAr v) s = .next t ∧
        exec (.hwrIdmDr hi v) s =
          .next { t with idmAr := if s.mr.getLsbD 1 then s.idmAr + 1#16 else s.idmAr }) ∧
    (s.idmAr = 0#16 → v.getLsbD 7 = true →
      ∃ t, exec (.hwrIdmDr hi v) s = .next t ∧ exec (.wrMr v) s = .next t ∧ t.mr = 0x00#8 ∧ t.idmAr = 0x0000#16) ∧
    (∀ n, s.idmAr = sockAddr n 0x01#8 → v = 0x20#8 → (s.sock n).state = .udp → 32 ≤ (s.sock n).dgq.length →
      exec (.hwrIdmDr hi v) s = .next { s with fault := some (s.fault.getD .dgqOverflow), busRdata := none })

/-- With MR = 0x03, the six writes of R123 run to a next state with SIPR = C0 A8 00 02 and IDM_AR = 0x0013, the
other global registers, the sockets and the buffers unchanged. It rests on the spec's own decisions D1, D5, D11
(spec/92_eei_decisions.md; notes/assumptions/7.md, 20.md). The spec marks R123 as its own derivation. Model
conventions: no read data after a transaction that returns none (notes/assumptions/12.md). -/
def Obligations.BurstThroughTheDataRegister : Prop :=
  ∀ (s : State), s.mr = 0x03#8 →
    ∃ t, Host.Core.run Sys2Proof.core 6 { s with busIn :=
        [.host (hostWord 1#2 0x001#16 0x00#8), .host (hostWord 1#2 0x002#16 0x0F#8),
         .host (hostWord 1#2 0x003#16 0xC0#8), .host (hostWord 1#2 0x003#16 0xA8#8),
         .host (hostWord 1#2 0x003#16 0x00#8), .host (hostWord 1#2 0x003#16 0x02#8)] } = .next t ∧
      t = { s with sipr := ⟨0xC0#8, 0xA8#8, 0x00#8, 0x02#8⟩, idmAr := 0x0013#16, busIn := [], busRdata := none }

/-- Each read of MR, GWR, SUBR, SHAR, SIPR, IMR, RMSR and TMSR answers the stored byte on the data bus and leaves
everything else as it is. It rests on the spec's own decisions D2, D3, D5, D7, D9, D10, D11
(spec/92_eei_decisions.md; notes/assumptions/5.md, 8.md, 20.md). -/
def Obligations.GlobalReadsAnswerTheStoredByte : Prop :=
  ∀ (s : State),
    exec .rdMr s = .next { s with busRdata := some s.mr } ∧
    exec .rdGwr0 s = .next { s with busRdata := some s.gwr.e0 } ∧
    exec .rdGwr1 s = .next { s with busRdata := some s.gwr.e1 } ∧
    exec .rdGwr2 s = .next { s with busRdata := some s.gwr.e2 } ∧
    exec .rdGwr3 s = .next { s with busRdata := some s.gwr.e3 } ∧
    exec .rdSubr0 s = .next { s with busRdata := some s.subr.e0 } ∧
    exec .rdSubr1 s = .next { s with busRdata := some s.subr.e1 } ∧
    exec .rdSubr2 s = .next { s with busRdata := some s.subr.e2 } ∧
    exec .rdSubr3 s = .next { s with busRdata := some s.subr.e3 } ∧
    exec .rdShar0 s = .next { s with busRdata := some s.shar.b0 } ∧
    exec .rdShar1 s = .next { s with busRdata := some s.shar.b1 } ∧
    exec .rdShar2 s = .next { s with busRdata := some s.shar.b2 } ∧
    exec .rdShar3 s = .next { s with busRdata := some s.shar.b3 } ∧
    exec .rdShar4 s = .next { s with busRdata := some s.shar.b4 } ∧
    exec .rdShar5 s = .next { s with busRdata := some s.shar.b5 } ∧
    exec .rdSipr0 s = .next { s with busRdata := some s.sipr.e0 } ∧
    exec .rdSipr1 s = .next { s with busRdata := some s.sipr.e1 } ∧
    exec .rdSipr2 s = .next { s with busRdata := some s.sipr.e2 } ∧
    exec .rdSipr3 s = .next { s with busRdata := some s.sipr.e3 } ∧
    exec .rdImr s = .next { s with busRdata := some s.imr } ∧
    exec .rdRmsr s = .next { s with busRdata := some s.rmsr } ∧
    exec .rdTmsr s = .next { s with busRdata := some s.tmsr }

/-- Each write of GWR, SUBR, SHAR, SIPR, IMR, RMSR and TMSR replaces that one byte; every other register, socket and
buffer byte is unchanged, and no read data is valid after it. It rests on the spec's own decisions D9, D10, D11
(spec/92_eei_decisions.md; notes/assumptions/20.md). Model conventions: no read data after a transaction that
returns none (notes/assumptions/12.md). -/
def Obligations.GlobalWritesStoreTheByte : Prop :=
  ∀ (s : State) (v : Byte),
    exec (.wrGwr0 v) s = .next { s with gwr := { s.gwr with e0 := v }, busRdata := none } ∧
    exec (.wrGwr1 v) s = .next { s with gwr := { s.gwr with e1 := v }, busRdata := none } ∧
    exec (.wrGwr2 v) s = .next { s with gwr := { s.gwr with e2 := v }, busRdata := none } ∧
    exec (.wrGwr3 v) s = .next { s with gwr := { s.gwr with e3 := v }, busRdata := none } ∧
    exec (.wrSubr0 v) s = .next { s with subr := { s.subr with e0 := v }, busRdata := none } ∧
    exec (.wrSubr1 v) s = .next { s with subr := { s.subr with e1 := v }, busRdata := none } ∧
    exec (.wrSubr2 v) s = .next { s with subr := { s.subr with e2 := v }, busRdata := none } ∧
    exec (.wrSubr3 v) s = .next { s with subr := { s.subr with e3 := v }, busRdata := none } ∧
    exec (.wrShar0 v) s = .next { s with shar := { s.shar with b0 := v }, busRdata := none } ∧
    exec (.wrShar1 v) s = .next { s with shar := { s.shar with b1 := v }, busRdata := none } ∧
    exec (.wrShar2 v) s = .next { s with shar := { s.shar with b2 := v }, busRdata := none } ∧
    exec (.wrShar3 v) s = .next { s with shar := { s.shar with b3 := v }, busRdata := none } ∧
    exec (.wrShar4 v) s = .next { s with shar := { s.shar with b4 := v }, busRdata := none } ∧
    exec (.wrShar5 v) s = .next { s with shar := { s.shar with b5 := v }, busRdata := none } ∧
    exec (.wrSipr0 v) s = .next { s with sipr := { s.sipr with e0 := v }, busRdata := none } ∧
    exec (.wrSipr1 v) s = .next { s with sipr := { s.sipr with e1 := v }, busRdata := none } ∧
    exec (.wrSipr2 v) s = .next { s with sipr := { s.sipr with e2 := v }, busRdata := none } ∧
    exec (.wrSipr3 v) s = .next { s with sipr := { s.sipr with e3 := v }, busRdata := none } ∧
    exec (.wrImr v) s = .next { s with imr := v, busRdata := none } ∧
    exec (.wrRmsr v) s = .next { s with rmsr := v, busRdata := none } ∧
    exec (.wrTmsr v) s = .next { s with tmsr := v, busRdata := none }

/-- With bit 7 clear the byte is stored and nothing else changes. With bit 7 set every open descriptor is closed in
socket order, every register and socket field is at its reset value, and the buffers, the model fault and the rest
are unchanged. It rests on the spec's own decisions D2, D3, D34 (spec/92_eei_decisions.md; notes/assumptions/8.md,
15.md). Model conventions: no read data after a transaction that returns none (notes/assumptions/12.md). -/
def Obligations.ModeWriteStoresOrResets : Prop :=
  ∀ (s : State) (v : Byte),
    (v.getLsbD 7 = false → exec (.wrMr v) s = .next { s with mr := v, busRdata := none }) ∧
    (v.getLsbD 7 = true → exec (.wrMr v) s = .next
      { s with
        mr := 0x00#8, idmAr := 0x0000#16, gwr := ⟨0#8, 0#8, 0#8, 0#8⟩, subr := ⟨0#8, 0#8, 0#8, 0#8⟩
        shar := ⟨0#8, 0#8, 0#8, 0#8, 0#8, 0#8⟩, sipr := ⟨0#8, 0#8, 0#8, 0#8⟩
        imr := 0x00#8, rmsr := 0x00#8, tmsr := 0x00#8
        socks := State.reset.socks
        netOut := closing (s.sock 3).fd ++ closing (s.sock 2).fd ++ closing (s.sock 1).fd ++ closing (s.sock 0).fd ++
          s.netOut
        busRdata := none })

/-- After RESET every register and socket field is at its reset value, every open descriptor was closed in socket
order, the buffers are drawn anew and G.fault is kept. What the environment supplies and the open parameters are
untouched (notes/assumptions/16.md). It rests on the spec's own decisions D24, D29, D34 (spec/92_eei_decisions.md;
notes/assumptions/15.md, 21.md, 22.md). -/
def Obligations.PowerUpResetLeavesTheResetState : Prop :=
  ∀ (s : State), exec .reset s = .next
    { State.reset with
      fault := s.fault
      netOut := closing (s.sock 3).fd ++ closing (s.sock 2).fd ++ closing (s.sock 1).fd ++ closing (s.sock 0).fd ++
        s.netOut
      netIn := s.netIn, busIn := s.busIn, draws := s.draws
      powerUps := s.powerUps + 1, params := s.params }

/-- Reading IR answers a byte whose bit n is 1 exactly when socket n has any Sn_IR bit set, whose bits 7:4 are 0,
and changes nothing; a write to IR changes nothing; and clearing every bit of a socket's Sn_IR clears its bit of IR
in the same transaction. That writing 0xFF to Sn_IR clears its bits is write-1-to-clear (R142, D14,
notes/assumptions/20.md). It rests on the spec's own decisions D8, D14 (spec/92_eei_decisions.md;
notes/assumptions/20.md). Model conventions: no read data after a transaction that returns none
(notes/assumptions/12.md). -/
def Obligations.GlobalInterruptRegisterShowsPendingSockets : Prop :=
  ∀ (s : State),
    (∃ b : Byte, exec .rdIr s = .next { s with busRdata := some b } ∧
      (∀ n : SockId, b.getLsbD n.val = true ↔ (s.sock n).ir ≠ 0#5) ∧ b.toNat < 16) ∧
    (∀ v, exec (.wrIr v) s = .next { s with busRdata := none }) ∧
    (∀ n t, exec (.wrSnIr n 0xFF#8) s = .next t → t.irValue.getLsbD n.val = false)

/-- The interrupt output is high exactly when some socket n has an interrupt bit set and bit n of IMR is 1; it is
low after reset. The output is the spec's own addition (D9). It rests on the spec's own decision D9
(spec/92_eei_decisions.md; notes/assumptions/20.md). -/
def Obligations.InterruptOutputIsMaskedPendingLevel : Prop :=
  (∀ (s : State), s.intOut = true ↔ ∃ n : SockId, (s.sock n).ir ≠ 0#5 ∧ s.imr.getLsbD n.val = true) ∧
  State.reset.intOut = false

/-- Writes of IR, Sn_SR, Sn_TX_FSR, Sn_TX_RR and Sn_RX_RSR, and a byte written to Sn_CR that is no command, change
no state and issue no request; nor does any write of an unmapped internal address, in each of the 25 blocks of the
map. It rests on the spec's own decisions D7, D8, D13, D14, D15, D16 (spec/92_eei_decisions.md;
notes/assumptions/5.md, 20.md). Model conventions: no read data after a transaction that returns none
(notes/assumptions/12.md). -/
def Obligations.ReadOnlyWritesChangeNothing : Prop :=
  ∀ (s : State) (n : SockId) (v : Byte),
    exec (.wrIr v) s = .next { s with busRdata := none } ∧
    exec (.wrSnSr n v) s = .next { s with busRdata := none } ∧
    exec (.wrSnTxFsr0 n v) s = .next { s with busRdata := none } ∧
    exec (.wrSnTxFsr1 n v) s = .next { s with busRdata := none } ∧
    exec (.wrSnTxRr0 n v) s = .next { s with busRdata := none } ∧
    exec (.wrSnTxRr1 n v) s = .next { s with busRdata := none } ∧
    exec (.wrSnRxRsr0 n v) s = .next { s with busRdata := none } ∧
    exec (.wrSnRxRsr1 n v) s = .next { s with busRdata := none } ∧
    exec (.wrUnmapped00 v) s = .next { s with busRdata := none } ∧
    exec (.wrUnmapped01 v) s = .next { s with busRdata := none } ∧
    exec (.wrUnmapped02 v) s = .next { s with busRdata := none } ∧
    (∀ o, exec (.wrUnmapped03 o v) s = .next { s with busRdata := none }) ∧
    (∀ o, exec (.wrUnmapped04 o v) s = .next { s with busRdata := none }) ∧
    (∀ o, exec (.wrUnmapped05 o v) s = .next { s with busRdata := none }) ∧
    (∀ o, exec (.wrUnmapped06 o v) s = .next { s with busRdata := none }) ∧
    (∀ o, exec (.wrUnmapped07 o v) s = .next { s with busRdata := none }) ∧
    (∀ o, exec (.wrUnmapped08 o v) s = .next { s with busRdata := none }) ∧
    (∀ o, exec (.wrUnmapped09 o v) s = .next { s with busRdata := none }) ∧
    (∀ o, exec (.wrUnmapped10 o v) s = .next { s with busRdata := none }) ∧
    (∀ o, exec (.wrUnmapped11 o v) s = .next { s with busRdata := none }) ∧
    (∀ o, exec (.wrUnmapped12 o v) s = .next { s with busRdata := none }) ∧
    (∀ o, exec (.wrUnmapped13 o v) s = .next { s with busRdata := none }) ∧
    (∀ o, exec (.wrUnmapped14 o v) s = .next { s with busRdata := none }) ∧
    (∀ o, exec (.wrUnmapped15 n o v) s = .next { s with busRdata := none }) ∧
    (∀ o, exec (.wrUnmapped16 n o v) s = .next { s with busRdata := none }) ∧
    (∀ o, exec (.wrUnmapped17 n o v) s = .next { s with busRdata := none }) ∧
    (∀ o, exec (.wrUnmapped18 n o v) s = .next { s with busRdata := none }) ∧
    (∀ o, exec (.wrUnmapped19 n o v) s = .next { s with busRdata := none }) ∧
    (∀ o, exec (.wrUnmapped20 n o v) s = .next { s with busRdata := none }) ∧
    (∀ o, exec (.wrUnmapped21 n o v) s = .next { s with busRdata := none }) ∧
    (∀ o, exec (.wrUnmapped22 n o v) s = .next { s with busRdata := none }) ∧
    (∀ o, exec (.wrUnmapped23 n o v) s = .next { s with busRdata := none }) ∧
    (∀ o, exec (.wrUnmapped24 n o v) s = .next { s with busRdata := none }) ∧
    exec (.cmdInvalid n v) s = .next { s with busRdata := none }

/-- Every read of an unmapped internal address, in each of the 25 blocks of the map, answers some byte; of the state
only the model's own count of draws moves. It rests on the spec's own decision D7 (spec/92_eei_decisions.md;
notes/assumptions/5.md, 20.md). -/
def Obligations.UnmappedReadsAnswerADraw : Prop :=
  ∀ (s : State) (n : SockId),
    (∃ b, exec .rdUnmapped00 s = .next { s with busRdata := some b, draws := s.draws + 1 }) ∧
    (∃ b, exec .rdUnmapped01 s = .next { s with busRdata := some b, draws := s.draws + 1 }) ∧
    (∃ b, exec .rdUnmapped02 s = .next { s with busRdata := some b, draws := s.draws + 1 }) ∧
    (∀ o, ∃ b, exec (.rdUnmapped03 o) s = .next { s with busRdata := some b, draws := s.draws + 1 }) ∧
    (∀ o, ∃ b, exec (.rdUnmapped04 o) s = .next { s with busRdata := some b, draws := s.draws + 1 }) ∧
    (∀ o, ∃ b, exec (.rdUnmapped05 o) s = .next { s with busRdata := some b, draws := s.draws + 1 }) ∧
    (∀ o, ∃ b, exec (.rdUnmapped06 o) s = .next { s with busRdata := some b, draws := s.draws + 1 }) ∧
    (∀ o, ∃ b, exec (.rdUnmapped07 o) s = .next { s with busRdata := some b, draws := s.draws + 1 }) ∧
    (∀ o, ∃ b, exec (.rdUnmapped08 o) s = .next { s with busRdata := some b, draws := s.draws + 1 }) ∧
    (∀ o, ∃ b, exec (.rdUnmapped09 o) s = .next { s with busRdata := some b, draws := s.draws + 1 }) ∧
    (∀ o, ∃ b, exec (.rdUnmapped10 o) s = .next { s with busRdata := some b, draws := s.draws + 1 }) ∧
    (∀ o, ∃ b, exec (.rdUnmapped11 o) s = .next { s with busRdata := some b, draws := s.draws + 1 }) ∧
    (∀ o, ∃ b, exec (.rdUnmapped12 o) s = .next { s with busRdata := some b, draws := s.draws + 1 }) ∧
    (∀ o, ∃ b, exec (.rdUnmapped13 o) s = .next { s with busRdata := some b, draws := s.draws + 1 }) ∧
    (∀ o, ∃ b, exec (.rdUnmapped14 o) s = .next { s with busRdata := some b, draws := s.draws + 1 }) ∧
    (∀ o, ∃ b, exec (.rdUnmapped15 n o) s = .next { s with busRdata := some b, draws := s.draws + 1 }) ∧
    (∀ o, ∃ b, exec (.rdUnmapped16 n o) s = .next { s with busRdata := some b, draws := s.draws + 1 }) ∧
    (∀ o, ∃ b, exec (.rdUnmapped17 n o) s = .next { s with busRdata := some b, draws := s.draws + 1 }) ∧
    (∀ o, ∃ b, exec (.rdUnmapped18 n o) s = .next { s with busRdata := some b, draws := s.draws + 1 }) ∧
    (∀ o, ∃ b, exec (.rdUnmapped19 n o) s = .next { s with busRdata := some b, draws := s.draws + 1 }) ∧
    (∀ o, ∃ b, exec (.rdUnmapped20 n o) s = .next { s with busRdata := some b, draws := s.draws + 1 }) ∧
    (∀ o, ∃ b, exec (.rdUnmapped21 n o) s = .next { s with busRdata := some b, draws := s.draws + 1 }) ∧
    (∀ o, ∃ b, exec (.rdUnmapped22 n o) s = .next { s with busRdata := some b, draws := s.draws + 1 }) ∧
    (∀ o, ∃ b, exec (.rdUnmapped23 n o) s = .next { s with busRdata := some b, draws := s.draws + 1 }) ∧
    (∀ o, ∃ b, exec (.rdUnmapped24 n o) s = .next { s with busRdata := some b, draws := s.draws + 1 })

/-- Sn_MR and Sn_DIPR answer the stored byte, Sn_CR answers 0x00, and Sn_IR answers the five interrupt bits with
bits 7:5 zero. It rests on the spec's own decisions D13, D14 (spec/92_eei_decisions.md; notes/assumptions/20.md). -/
def Obligations.SocketByteReads : Prop :=
  ∀ (s : State) (n : SockId),
    exec (.rdSnMr n) s = .next { s with busRdata := some (s.sock n).mr } ∧
    exec (.rdSnCr n) s = .next { s with busRdata := some 0x00#8 } ∧
    exec (.rdSnDipr0 n) s = .next { s with busRdata := some (s.sock n).dip.e0 } ∧
    exec (.rdSnDipr1 n) s = .next { s with busRdata := some (s.sock n).dip.e1 } ∧
    exec (.rdSnDipr2 n) s = .next { s with busRdata := some (s.sock n).dip.e2 } ∧
    exec (.rdSnDipr3 n) s = .next { s with busRdata := some (s.sock n).dip.e3 } ∧
    (∃ b, exec (.rdSnIr n) s = .next { s with busRdata := some b } ∧ b.toNat = (s.sock n).ir.toNat)

/-- A read of Sn_SR changes nothing and answers 0x00, 0x13, 0x14, 0x15, 0x17, 0x1C or 0x22 for Closed, Init, Listen,
Connecting, Established, CloseWait or Udp. -/
def Obligations.StatusByteEncodesTheSocketState : Prop :=
  ∀ (s : State) (n : SockId), ∃ b : Byte, exec (.rdSnSr n) s = .next { s with busRdata := some b } ∧
    b = match (s.sock n).state with
      | .closed => 0x00#8
      | .init => 0x13#8
      | .listen => 0x14#8
      | .connecting => 0x15#8
      | .established => 0x17#8
      | .closeWait => 0x1C#8
      | .udp => 0x22#8

/-- For Sn_PORT, Sn_DPORT, Sn_TX_RR, Sn_TX_WR and Sn_RX_RD, and for the received size Sn_RX_RSR while at most 2048
bytes are held, the read at the lower address answers bits 15:8 and the next one bits 7:0; neither changes anything.
It rests on the spec's own decisions D1, D16, D17, D39 (spec/92_eei_decisions.md; notes/assumptions/7.md, 20.md). -/
def Obligations.SocketPairReadsAnswerTheHalves : Prop :=
  ∀ (s : State) (n : SockId),
    (∃ b c, exec (.rdSnPort0 n) s = .next { s with busRdata := some b } ∧
      exec (.rdSnPort1 n) s = .next { s with busRdata := some c } ∧ (s.sock n).port.toNat = b.toNat * 256 + c.toNat) ∧
    (∃ b c, exec (.rdSnDport0 n) s = .next { s with busRdata := some b } ∧
      exec (.rdSnDport1 n) s = .next { s with busRdata := some c } ∧ (s.sock n).dport.toNat = b.toNat * 256 + c.toNat) ∧
    (∃ b c, exec (.rdSnTxRr0 n) s = .next { s with busRdata := some b } ∧
      exec (.rdSnTxRr1 n) s = .next { s with busRdata := some c } ∧ (s.sock n).txRR.toNat = b.toNat * 256 + c.toNat) ∧
    (∃ b c, exec (.rdSnTxWr0 n) s = .next { s with busRdata := some b } ∧
      exec (.rdSnTxWr1 n) s = .next { s with busRdata := some c } ∧ (s.sock n).txWR.toNat = b.toNat * 256 + c.toNat) ∧
    (∃ b c, exec (.rdSnRxRd0 n) s = .next { s with busRdata := some b } ∧
      exec (.rdSnRxRd1 n) s = .next { s with busRdata := some c } ∧ (s.sock n).rxRD.toNat = b.toNat * 256 + c.toNat) ∧
    (∃ b c, exec (.rdSnRxRsr0 n) s = .next { s with busRdata := some b } ∧
      exec (.rdSnRxRsr1 n) s = .next { s with busRdata := some c } ∧
      ((s.sock n).rxAvail ≤ 2048 → (s.sock n).rxAvail = b.toNat * 256 + c.toNat))

/-- The two reads of Sn_TX_FSR answer the halves of 2048 - ((txWR - txRR) mod 2^16), or of 0 when more than 2048
bytes are promised, in every socket state, and change nothing. That Sn_TX_FSR0 is the high half and Sn_TX_FSR1 the
low half is D1 (notes/assumptions/7.md). It rests on the spec's own decisions D1, D16 (spec/92_eei_decisions.md;
notes/assumptions/7.md, 20.md). -/
def Obligations.TransmitFreeSpaceIsClamped : Prop :=
  ∀ (s : State) (n : SockId),
    ∃ b c, exec (.rdSnTxFsr0 n) s = .next { s with busRdata := some b } ∧
      exec (.rdSnTxFsr1 n) s = .next { s with busRdata := some c } ∧
      (((s.sock n).txWR - (s.sock n).txRR).toNat ≤ 2048 →
        b.toNat * 256 + c.toNat = 2048 - ((s.sock n).txWR - (s.sock n).txRR).toNat) ∧
      (2048 < ((s.sock n).txWR - (s.sock n).txRR).toNat → b.toNat * 256 + c.toNat = 0)

/-- Each write takes effect at once, keeps the other half or octets, and changes no other field, socket, register or
buffer byte. It rests on the spec's own decisions D1, D17, D39 (spec/92_eei_decisions.md; notes/assumptions/7.md,
20.md). Model conventions: no read data after a transaction that returns none (notes/assumptions/12.md). -/
def Obligations.SocketStoresReplaceOneByte : Prop :=
  ∀ (s : State) (n : SockId) (v : Byte),
    (∃ w, exec (.wrSnDport0 n v) s = .next { s with socks := s.socks.set n { (s.sock n) with dport := w }, busRdata := none } ∧
      w.toNat = v.toNat * 256 + (s.sock n).dport.toNat % 256) ∧
    (∃ w, exec (.wrSnDport1 n v) s = .next { s with socks := s.socks.set n { (s.sock n) with dport := w }, busRdata := none } ∧
      w.toNat = (s.sock n).dport.toNat / 256 * 256 + v.toNat) ∧
    (∃ w, exec (.wrSnTxWr0 n v) s = .next { s with socks := s.socks.set n { (s.sock n) with txWR := w }, busRdata := none } ∧
      w.toNat = v.toNat * 256 + (s.sock n).txWR.toNat % 256) ∧
    (∃ w, exec (.wrSnTxWr1 n v) s = .next { s with socks := s.socks.set n { (s.sock n) with txWR := w }, busRdata := none } ∧
      w.toNat = (s.sock n).txWR.toNat / 256 * 256 + v.toNat) ∧
    (∃ w, exec (.wrSnRxRd0 n v) s = .next { s with socks := s.socks.set n { (s.sock n) with rxRD := w }, busRdata := none } ∧
      w.toNat = v.toNat * 256 + (s.sock n).rxRD.toNat % 256) ∧
    (∃ w, exec (.wrSnRxRd1 n v) s = .next { s with socks := s.socks.set n { (s.sock n) with rxRD := w }, busRdata := none } ∧
      w.toNat = (s.sock n).rxRD.toNat / 256 * 256 + v.toNat) ∧
    exec (.wrSnDipr0 n v) s =
      .next { s with socks := s.socks.set n { (s.sock n) with dip := { (s.sock n).dip with e0 := v } }, busRdata := none } ∧
    exec (.wrSnDipr1 n v) s =
      .next { s with socks := s.socks.set n { (s.sock n) with dip := { (s.sock n).dip with e1 := v } }, busRdata := none } ∧
    exec (.wrSnDipr2 n v) s =
      .next { s with socks := s.socks.set n { (s.sock n) with dip := { (s.sock n).dip with e2 := v } }, busRdata := none } ∧
    exec (.wrSnDipr3 n v) s =
      .next { s with socks := s.socks.set n { (s.sock n) with dip := { (s.sock n).dip with e3 := v } }, busRdata := none }

/-- After a write of v to Sn_IR an interrupt bit is set exactly when it was set before and v has 0 there; nothing
else changes. Write-1-to-clear is the spec's decision D14 (notes/assumptions/20.md). It rests on the spec's own
decision D14 (spec/92_eei_decisions.md; notes/assumptions/20.md). Model conventions: no read data after a
transaction that returns none (notes/assumptions/12.md). -/
def Obligations.SocketInterruptWriteOneClears : Prop :=
  ∀ (s : State) (n : SockId) (v : Byte),
    ∃ r, exec (.wrSnIr n v) s = .next { s with socks := s.socks.set n { (s.sock n) with ir := r }, busRdata := none } ∧
      ∀ i, i < 5 → r.getLsbD i = ((s.sock n).ir.getLsbD i && !v.getLsbD i)

/-- A write of Sn_MR stores the byte if SN_MR_ACCEPT holds it and 0x00 otherwise, and changes no other field. It
rests on the spec's own decision D12 (spec/92_eei_decisions.md; notes/assumptions/6.md, 20.md). Model conventions:
no read data after a transaction that returns none (notes/assumptions/12.md). -/
def Obligations.ModeByteIsFiltered : Prop :=
  ∀ (s : State) (n : SockId) (v : Byte),
    (v ∈ s.params.snMrAccept → exec (.wrSnMr n v) s =
      .next { s with socks := s.socks.set n { (s.sock n) with mr := v }, busRdata := none }) ∧
    (v ∉ s.params.snMrAccept → exec (.wrSnMr n v) s =
      .next { s with socks := s.socks.set n { (s.sock n) with mr := 0x00#8 }, busRdata := none })

/-- A write of Sn_PORT0 or Sn_PORT1 that is not the second one of a socket with an unbound descriptor replaces its
half, adds 1 to the write count below 2, issues no request and changes nothing else. It rests on the spec's own
decisions D1, D18 (spec/92_eei_decisions.md; notes/assumptions/7.md, 21.md). Model conventions: no read data after a
transaction that returns none (notes/assumptions/12.md). -/
def Obligations.PortWriteStoresAndCounts : Prop :=
  ∀ (s : State) (n : SockId) (v : Byte),
    ((s.sock n).bwc ≠ 1 ∨ (s.sock n).fd = none ∨ (s.sock n).bound = true) →
    ∃ w x, exec (.wrSnPort0 n v) s = .next { s with
        socks := s.socks.set n { (s.sock n) with
          port := w, bwc := if (s.sock n).bwc < 2 then (s.sock n).bwc + 1 else (s.sock n).bwc }
        busRdata := none } ∧
      w.toNat = v.toNat * 256 + (s.sock n).port.toNat % 256 ∧
      exec (.wrSnPort1 n v) s = .next { s with
        socks := s.socks.set n { (s.sock n) with
          port := x, bwc := if (s.sock n).bwc < 2 then (s.sock n).bwc + 1 else (s.sock n).bwc }
        busRdata := none } ∧
      x.toNat = (s.sock n).port.toNat / 256 * 256 + v.toNat

/-- It issues one NetBind with the source IP and the new port; on Ok the socket is bound and nothing else changes.
Either half may be the second write; which half of the port a written byte replaces is D1 (notes/assumptions/7.md).
For Fail see BindFailureDisconnects. It rests on the spec's own decisions D1, D18 (spec/92_eei_decisions.md;
notes/assumptions/7.md, 21.md). Model conventions: the oracle answers scripted in `netIn` (notes/assumptions/1.md);
no read data after a transaction that returns none (notes/assumptions/12.md). -/
def Obligations.SecondPortWriteBinds : Prop :=
  ∀ (s : State) (n : SockId) (v : Byte) (f : Fd) (net : List NetAnswer),
    (s.sock n).bwc = 1 → (s.sock n).fd = some f → (s.sock n).bound = false →
    ∀ (hi : Bool), ∃ w : Word,
      w.toNat = (if hi then v.toNat * 256 + (s.sock n).port.toNat % 256
        else (s.sock n).port.toNat / 256 * 256 + v.toNat) ∧
      (s.netIn = .ok :: net → exec (if hi then .wrSnPort0 n v else .wrSnPort1 n v) s = .next
        (s.afterRequests n { (s.sock n) with port := w, bwc := 2, bound := true } [.bind (some f) s.sipr w] net))

/-- A TX byte lives at 0x4000 + n*0x800 + o and an RX byte at 0x6000 + n*0x800 + o. A read answers the byte there
and changes nothing; a write stores the byte there, leaves every other byte of memory, and changes no register and
no socket. It rests on the spec's own decision D40 (spec/92_eei_decisions.md; notes/assumptions/20.md). Model
conventions: no read data after a transaction that returns none (notes/assumptions/12.md). -/
def Obligations.BufferBytesReadAndStore : Prop :=
  ∀ (s : State) (n : SockId) (o : BitVec 11) (v : Byte),
    exec (.rdTxbuf n o) s = .next { s with busRdata := some (s.bufByte (0x4000 + n.val * 0x800 + o.toNat)) } ∧
    exec (.rdRxbuf n o) s = .next { s with busRdata := some (s.bufByte (0x6000 + n.val * 0x800 + o.toNat)) } ∧
    (∃ m, exec (.wrTxbuf n o v) s = .next { s with mem := m, busRdata := none } ∧
      ∀ a, ({ s with mem := m } : State).bufByte a =
        if a = 0x4000 + n.val * 0x800 + o.toNat then v else s.bufByte a) ∧
    (∃ m, exec (.wrRxbuf n o v) s = .next { s with mem := m, busRdata := none } ∧
      ∀ a, ({ s with mem := m } : State).bufByte a =
        if a = 0x6000 + n.val * 0x800 + o.toNat then v else s.bufByte a)

/-- After a direct-mode WRITE of v to a buffer address, a READ of that address answers v, and a READ of any other
buffer address answers what it would have answered before. It rests on the spec's own decision D40
(spec/92_eei_decisions.md; notes/assumptions/20.md). The spec marks R77 as its own derivation. -/
def Obligations.BusReadReturnsLastBusWriteOfABufferByte : Prop :=
  ∀ (s : State) (h g : Word) (v : Byte), 0x4000 ≤ h.toNat → h.toNat < 0x8000 → 0x4000 ≤ g.toNat → g.toNat < 0x8000 →
    ∃ t u r, exec (.hwrDirect h v) s = .next t ∧ exec (.hrdDirect g) t = .next u ∧ exec (.hrdDirect g) s = .next r ∧
      u.busRdata = if g = h then some v else r.busRdata

/-- A direct-mode READ of any host address, and an indirect-mode READ of MR, IDM_AR0 or IDM_AR1, leaves every
register, socket, buffer byte and request record as it is; an indirect-mode READ of IDM_DR changes the indirect
address by the auto-increment, when AI is set, and nothing else. Besides, only the read data and the model's count
of draws (notes/assumptions/5.md) may move. It rests on the spec's own decisions D1, D5, D7
(spec/92_eei_decisions.md; notes/assumptions/5.md, 7.md, 20.md). -/
def Obligations.ReadsHaveNoSideEffectButTheAutoIncrement : Prop :=
  ∀ (s : State) (h : Word) (hi : BitVec 14),
    (∃ b d, exec (.hrdDirect h) s = .next { s with busRdata := some b, draws := d }) ∧
    (∃ b, exec (.hrdMrInd hi) s = .next { s with busRdata := some b }) ∧
    (∃ b, exec (.hrdIdmAr0 hi) s = .next { s with busRdata := some b }) ∧
    (∃ b, exec (.hrdIdmAr1 hi) s = .next { s with busRdata := some b }) ∧
    (∃ b d, exec (.hrdIdmDr hi) s = .next { s with
      busRdata := some b, draws := d, idmAr := if s.mr.getLsbD 1 then s.idmAr + 1#16 else s.idmAr })

/-- With the socket Closed, its protocol TCP or UDP, fewer than two port writes seen and NetSocket answered Ok with
any token that no open descriptor has: one request, that token as the descriptor, the state Init or Udp,
lastSendMark at the TX write pointer, and nothing else changes. It rests on the spec's own decisions D18, D20, D41
(spec/92_eei_decisions.md; notes/assumptions/1.md, 21.md). Model conventions: the oracle answers scripted in `netIn`
(notes/assumptions/1.md); a token is a natural number, any that no socket holds (notes/assumptions/3.md); no read
data after a transaction that returns none (notes/assumptions/12.md). -/
def Obligations.OpenCreatesTheDescriptor : Prop :=
  ∀ (s : State) (n : SockId) (kind : SockKind) (next : SockState) (f : Fd) (net : List NetAnswer),
    (s.sock n).state = .closed → opensAs (s.sock n) kind next → (s.sock n).bwc ≠ 2 →
    (∀ m, (s.sock m).fd ≠ some f) → s.netIn = .okFd f :: net →
    exec (.cmdOpen n) s = .next (s.afterRequests n
      { (s.sock n) with fd := some f, state := next, lastSendMark := (s.sock n).txWR } [.socket kind] net)

/-- With two port writes seen and the socket unbound, OPEN issues NetSocket and then NetBind: with both answered Ok,
the first with any token that no open descriptor has, the socket is open with that token and bound, and nothing else
changes. For Fail see BindFailureDisconnects. It rests on the spec's own decisions D18, D20
(spec/92_eei_decisions.md; notes/assumptions/21.md). Model conventions: the oracle answers scripted in `netIn`
(notes/assumptions/1.md); a token is a natural number, any that no socket holds (notes/assumptions/3.md); no read
data after a transaction that returns none (notes/assumptions/12.md). -/
def Obligations.OpenBindsAfterTwoPortWrites : Prop :=
  ∀ (s : State) (n : SockId) (kind : SockKind) (next : SockState) (f : Fd) (net : List NetAnswer),
    (s.sock n).state = .closed → opensAs (s.sock n) kind next → (s.sock n).bwc = 2 → (s.sock n).bound = false →
    (∀ m, (s.sock m).fd ≠ some f) → s.netIn = .okFd f :: .ok :: net →
    exec (.cmdOpen n) s = .next (s.afterRequests n
      { (s.sock n) with fd := some f, state := next, lastSendMark := (s.sock n).txWR, bound := true }
      [.bind (some f) s.sipr (s.sock n).port, .socket kind] net)

/-- When NetSocket answers Fail, the one request is all that happens: the socket, its interrupt bits and every
register are unchanged. Model conventions: the oracle answers scripted in `netIn` (notes/assumptions/1.md); no read
data after a transaction that returns none (notes/assumptions/12.md). -/
def Obligations.OpenFailureIsSilent : Prop :=
  ∀ (s : State) (n : SockId) (kind : SockKind) (next : SockState) (net : List NetAnswer),
    (s.sock n).state = .closed → opensAs (s.sock n) kind next → s.netIn = .fail :: net →
    exec (.cmdOpen n) s = .next (s.afterRequests n (s.sock n) [.socket kind] net)

/-- OPEN outside Closed or with a protocol nibble other than 1 and 2, LISTEN or CONNECT outside Init, DISCON outside
Established and CloseWait, SEND outside Udp and Established, RECV outside Udp, Established and CloseWait, and a
non-command byte: no state changes and no request is issued. It rests on the spec's own decision D13
(spec/92_eei_decisions.md; notes/assumptions/20.md). Model conventions: no read data after a transaction that
returns none (notes/assumptions/12.md). -/
def Obligations.MisplacedCommandsAreIgnored : Prop :=
  ∀ (s : State) (n : SockId) (v : Byte),
    ((s.sock n).state ≠ .closed ∨ (protocol (s.sock n) ≠ 1#4 ∧ protocol (s.sock n) ≠ 2#4) →
      exec (.cmdOpen n) s = .next { s with busRdata := none }) ∧
    ((s.sock n).state ≠ .init → exec (.cmdListen n) s = .next { s with busRdata := none } ∧
      exec (.cmdConnect n) s = .next { s with busRdata := none }) ∧
    ((s.sock n).state ≠ .established → (s.sock n).state ≠ .closeWait →
      exec (.cmdDiscon n) s = .next { s with busRdata := none }) ∧
    ((s.sock n).state ≠ .udp → (s.sock n).state ≠ .established →
      exec (.cmdSend n) s = .next { s with busRdata := none }) ∧
    ((s.sock n).state ≠ .udp → (s.sock n).state ≠ .established → (s.sock n).state ≠ .closeWait →
      exec (.cmdRecv n) s = .next { s with busRdata := none }) ∧
    (isCommandByte v = false → exec (decodeInternal true (sockAddr n 0x01#8) v) s = .next { s with busRdata := none })

/-- A bound Init socket issues NetListen only; an unbound one issues NetBind first. With the answers Ok the socket
is in Listen, bound; when NetListen fails it stays in Init, bound, with no interrupt bit set. It rests on the spec's
own decision D19 (spec/92_eei_decisions.md; notes/assumptions/21.md). Model conventions: the oracle answers scripted
in `netIn` (notes/assumptions/1.md); no read data after a transaction that returns none (notes/assumptions/12.md).
-/
def Obligations.ListenOfABoundSocket : Prop :=
  ∀ (s : State) (n : SockId) (net : List NetAnswer), (s.sock n).state = .init →
    ((s.sock n).bound = true →
      (s.netIn = .ok :: net → exec (.cmdListen n) s =
        .next (s.afterRequests n { (s.sock n) with state := .listen } [.listen (s.sock n).fd] net)) ∧
      (s.netIn = .fail :: net → exec (.cmdListen n) s =
        .next (s.afterRequests n (s.sock n) [.listen (s.sock n).fd] net))) ∧
    ((s.sock n).bound = false →
      (s.netIn = .ok :: .ok :: net → exec (.cmdListen n) s =
        .next (s.afterRequests n { (s.sock n) with state := .listen, bound := true }
          [.listen (s.sock n).fd, .bind (s.sock n).fd s.sipr (s.sock n).port] net)) ∧
      (s.netIn = .ok :: .fail :: net → exec (.cmdListen n) s =
        .next (s.afterRequests n { (s.sock n) with bound := true }
          [.listen (s.sock n).fd, .bind (s.sock n).fd s.sipr (s.sock n).port] net)))

/-- When NetBind answers Fail at LISTEN or CONNECT of an unbound Init socket, at the second port write of an unbound
socket with a descriptor, or at an OPEN after two port writes, DISCON is set, the descriptor is closed and the
socket is Closed; no further request is issued and nothing else changes. Binding at the second port write and at
OPEN is D18, the released fields are D22 (notes/assumptions/21.md), and which half a port write replaces is D1
(notes/assumptions/7.md). It rests on the spec's own decisions D1, D18, D20, D22 (spec/92_eei_decisions.md;
notes/assumptions/7.md, 21.md). Model conventions: the oracle answers scripted in `netIn` (notes/assumptions/1.md);
a token is a natural number, any that no socket holds (notes/assumptions/3.md); no read data after a transaction
that returns none (notes/assumptions/12.md). -/
def Obligations.BindFailureDisconnects : Prop :=
  ∀ (s : State) (n : SockId) (net : List NetAnswer), (s.sock n).bound = false →
    ((s.sock n).state = .init → s.netIn = .fail :: net →
      exec (.cmdListen n) s = .next (s.afterRequests n
        ({ (s.sock n) with ir := (s.sock n).ir ||| 0b00010#5 } : Socket).released
        (closing (s.sock n).fd ++ [.bind (s.sock n).fd s.sipr (s.sock n).port]) net) ∧
      exec (.cmdConnect n) s = .next (s.afterRequests n
        ({ (s.sock n) with ir := (s.sock n).ir ||| 0b00010#5 } : Socket).released
        (closing (s.sock n).fd ++ [.bind (s.sock n).fd s.sipr (s.sock n).port]) net)) ∧
    (∀ (f : Fd) (hi : Bool) (v : Byte) (w : Word), (s.sock n).bwc = 1 → (s.sock n).fd = some f →
      s.netIn = .fail :: net →
      w.toNat = (if hi then v.toNat * 256 + (s.sock n).port.toNat % 256
        else (s.sock n).port.toNat / 256 * 256 + v.toNat) →
      exec (if hi then .wrSnPort0 n v else .wrSnPort1 n v) s = .next (s.afterRequests n
        ({ (s.sock n) with port := w, ir := (s.sock n).ir ||| 0b00010#5 } : Socket).released
        [.close f, .bind (some f) s.sipr w] net)) ∧
    (∀ (kind : SockKind) (next : SockState) (f : Fd), (s.sock n).state = .closed → opensAs (s.sock n) kind next →
      (s.sock n).bwc = 2 → (∀ m, (s.sock m).fd ≠ some f) → s.netIn = .okFd f :: .fail :: net →
      exec (.cmdOpen n) s = .next (s.afterRequests n
        ({ (s.sock n) with lastSendMark := (s.sock n).txWR, ir := (s.sock n).ir ||| 0b00010#5 } : Socket).released
        [.close f, .bind (some f) s.sipr (s.sock n).port, .socket kind] net))

/-- A bound Init socket issues NetConnect with its destination: Ok sets CON and Established, InProgress leads to
Connecting with no bit, Fail sets DISCON and releases the socket. An unbound one binds first and then does the same.
For a failed bind see BindFailureDisconnects. It rests on the spec's own decision D22 (spec/92_eei_decisions.md;
notes/assumptions/21.md). Model conventions: the oracle answers scripted in `netIn` (notes/assumptions/1.md); no
read data after a transaction that returns none (notes/assumptions/12.md). -/
def Obligations.ConnectTakesItsAnswer : Prop :=
  ∀ (s : State) (n : SockId) (net : List NetAnswer), (s.sock n).state = .init →
    ((s.sock n).bound = true →
      (s.netIn = .ok :: net → exec (.cmdConnect n) s = .next (s.afterRequests n
        { (s.sock n) with ir := (s.sock n).ir ||| 0b00001#5, state := .established }
        [.connect (s.sock n).fd (s.sock n).dip (s.sock n).dport] net)) ∧
      (s.netIn = .inProgress :: net → exec (.cmdConnect n) s = .next (s.afterRequests n
        { (s.sock n) with state := .connecting } [.connect (s.sock n).fd (s.sock n).dip (s.sock n).dport] net)) ∧
      (s.netIn = .fail :: net → exec (.cmdConnect n) s = .next (s.afterRequests n
        ({ (s.sock n) with ir := (s.sock n).ir ||| 0b00010#5 } : Socket).released
        (closing (s.sock n).fd ++ [.connect (s.sock n).fd (s.sock n).dip (s.sock n).dport]) net))) ∧
    ((s.sock n).bound = false →
      (s.netIn = .ok :: .ok :: net → exec (.cmdConnect n) s = .next (s.afterRequests n
        { (s.sock n) with ir := (s.sock n).ir ||| 0b00001#5, state := .established, bound := true }
        [.connect (s.sock n).fd (s.sock n).dip (s.sock n).dport, .bind (s.sock n).fd s.sipr (s.sock n).port] net)) ∧
      (s.netIn = .ok :: .inProgress :: net → exec (.cmdConnect n) s = .next (s.afterRequests n
        { (s.sock n) with state := .connecting, bound := true }
        [.connect (s.sock n).fd (s.sock n).dip (s.sock n).dport, .bind (s.sock n).fd s.sipr (s.sock n).port] net)) ∧
      (s.netIn = .ok :: .fail :: net → exec (.cmdConnect n) s = .next (s.afterRequests n
        ({ (s.sock n) with ir := (s.sock n).ir ||| 0b00010#5 } : Socket).released
        (closing (s.sock n).fd ++ [.connect (s.sock n).fd (s.sock n).dip (s.sock n).dport,
          .bind (s.sock n).fd s.sipr (s.sock n).port]) net)))

/-- From Established or CloseWait the socket is Closed with the DISCON bit set, its descriptor closed, its bind and
pending bookkeeping reset; the pointers, rxAvail and the buffers are unchanged. It rests on the spec's own decisions
D21, D22 (spec/92_eei_decisions.md; notes/assumptions/21.md). Model conventions: no read data after a transaction
that returns none (notes/assumptions/12.md). -/
def Obligations.DisconReleasesWithItsBit : Prop :=
  ∀ (s : State) (n : SockId), (s.sock n).state = .established ∨ (s.sock n).state = .closeWait →
    exec (.cmdDiscon n) s = .next (s.afterRequests n
      { (s.sock n) with
        ir := (s.sock n).ir ||| 0b00010#5, fd := none, state := .closed, bound := false, bwc := 0
        writePending := false, dgq := [], tickLive := false }
      (closing (s.sock n).fd) s.netIn)

/-- In every state the descriptor is closed if there is one, the socket is Closed, unbound, with write count 0, no
pending flush and no queued datagram; the interrupt bits, the registers, the pointers, rxAvail and the buffers are
unchanged. It rests on the spec's own decisions D13, D22 (spec/92_eei_decisions.md; notes/assumptions/20.md, 21.md).
Model conventions: no read data after a transaction that returns none (notes/assumptions/12.md). -/
def Obligations.CloseReleasesFromEveryState : Prop :=
  ∀ (s : State) (n : SockId), exec (.cmdClose n) s = .next (s.afterRequests n
    { (s.sock n) with
      fd := none, state := .closed, bound := false, bwc := 0, writePending := false, dgq := [], tickLive := false }
    (closing (s.sock n).fd) s.netIn)

/-- From Established only writePending is set. From Udp with fewer than 32 lengths queued, (txWR - lastSendMark) mod
2^16 is appended to the queue, writePending is set and lastSendMark becomes txWR. Nothing else changes and no
request is issued. Model conventions: no read data after a transaction that returns none (notes/assumptions/12.md).
-/
def Obligations.SendRequestsAFlush : Prop :=
  ∀ (s : State) (n : SockId),
    ((s.sock n).state = .established → exec (.cmdSend n) s =
      .next { s with socks := s.socks.set n { (s.sock n) with writePending := true }, busRdata := none }) ∧
    ((s.sock n).state = .udp → (s.sock n).dgq.length < 32 →
      ∃ len : Word, exec (.cmdSend n) s = .next { s with
          socks := s.socks.set n { (s.sock n) with
            dgq := (s.sock n).dgq ++ [len], writePending := true, lastSendMark := (s.sock n).txWR }
          busRdata := none } ∧
        len.toNat = ((s.sock n).txWR.toNat + 65536 - (s.sock n).lastSendMark.toNat) % 65536)

/-- With no earlier fault the model fault becomes DGQ_OVERFLOW; an earlier fault is kept. Nothing else of the block
changes. It rests on the spec's own decisions D24, D29 (spec/92_eei_decisions.md; notes/assumptions/21.md, 22.md).
Model conventions: no read data after a transaction that returns none (notes/assumptions/12.md). -/
def Obligations.SendOverflowRaisesTheModelFault : Prop :=
  ∀ (s : State) (n : SockId), (s.sock n).state = .udp → (s.sock n).dgq.length = 32 →
    (s.fault = none → exec (.cmdSend n) s = .next { s with fault := some .dgqOverflow, busRdata := none }) ∧
    (∀ k, s.fault = some k → exec (.cmdSend n) s = .next { s with busRdata := none })

/-- From Udp, Established or CloseWait, rxAvail falls by (rxRD - oldRxRD) mod 2^16 but not below 0, oldRxRD becomes
rxRD, and the RECV bit is set when data remain and left as it was otherwise. Nothing else changes; a second RECV
leaves the count as it is. It rests on the spec's own decision D25 (spec/92_eei_decisions.md;
notes/assumptions/21.md). Model conventions: no read data after a transaction that returns none
(notes/assumptions/12.md). -/
def Obligations.RecvCommitsTheAdvance : Prop :=
  ∀ (s : State) (n : SockId),
    (s.sock n).state = .udp ∨ (s.sock n).state = .established ∨ (s.sock n).state = .closeWait →
    ∃ k t u, exec (.cmdRecv n) s = .next t ∧ t = { s with socks := s.socks.set n k, busRdata := none } ∧
      k = { (s.sock n) with
        oldRxRD := (s.sock n).rxRD
        rxAvail := (s.sock n).rxAvail - ((s.sock n).rxRD.toNat + 65536 - (s.sock n).oldRxRD.toNat) % 65536
        ir := if k.rxAvail = 0 then (s.sock n).ir else (s.sock n).ir ||| 0b00100#5 } ∧
      exec (.cmdRecv n) t = .next u ∧ u.sock n = k

/-- No tick is under way. When every candidate is answered as neither readable nor writable, TICK issues the
NetReady of each socket that has a descriptor and is a candidate, with its wantR and wantW, in the order of sockets
0 to 3, and takes one answer for each; every field else is as it was but for the data bus, on which nothing is
valid. So with no candidate at all, whatever answers are left, it asks nothing: every socket is without descriptor,
or has no flush pending and is in Init, in Udp with fewer than 9 bytes free, or in Established or CloseWait with a
full RX ring. It rests on the spec's own decision D33 (spec/92_eei_decisions.md; notes/assumptions/22.md). The spec
marks R277 as its own derivation. Model conventions: the oracle answers scripted in `netIn`
(notes/assumptions/1.md); no read data after a transaction that returns none (notes/assumptions/12.md). -/
def Obligations.TickWithNothingReadyOnlyAsks : Prop :=
  ∀ (s : State), (∀ n, (s.sock n).tickLive = false) →
    (∀ net, s.netIn = List.replicate s.readyAsks.length (.ready false false) ++ net →
      exec .tick s = .next { s with netOut := s.readyAsks ++ s.netOut, netIn := net, busRdata := none }) ∧
    ((∀ n, (s.sock n).fd = none ∨ ((s.sock n).writePending = false ∧
      ((s.sock n).state = .init ∨ ((s.sock n).state = .udp ∧ 2048 < (s.sock n).rxAvail + 9) ∨
        (((s.sock n).state = .established ∨ (s.sock n).state = .closeWait) ∧ 2048 ≤ (s.sock n).rxAvail)))) →
      exec .tick s = .next { s with busRdata := none })

/-- Every socket with a descriptor is marked live; then sockets 0, 1, 2 and 3 have their turns in that order, each
from the state the one before left, and a socket that is not live has none. When the turns go through, the tick ends
in the state the last one left; when one raises the model fault no later socket has its turn, and the tick keeps of
it the fault flag and the requests (notes/assumptions/14.md). TICK always answers a next state, and in it every
global register, and for each socket Sn_MR, Sn_PORT, txWR, rxRD, oldRxRD, lastSendMark and every TX byte are as
before; the destination too unless ACCEPT_UPDATES_DEST; bound and the write count are as before or reset. It rests
on the spec's own decisions D22, D24, D29, D33 (spec/92_eei_decisions.md; notes/assumptions/21.md, 22.md). The spec
marks R260, R277 as its own derivation. Model conventions: no read data after a transaction that returns none
(notes/assumptions/12.md). -/
def Obligations.TickIsFourTurnsOnTheNetworkSide : Prop :=
  (∀ (s m : State), m = { s with socks := m.socks } →
    (∀ n, m.sock n = { (s.sock n) with tickLive := (s.sock n).fd.isSome }) →
    (∀ t, turns [0, 1, 2, 3] m = .ok t → exec .tick s = .next { t with busRdata := none }) ∧
    (∀ e, turns [0, 1, 2, 3] m = .error e → exec .tick s = .next
      { s with fault := e.fault, netOut := e.netOut, netIn := e.netIn, busRdata := none })) ∧
  (∀ (s : State) (n : SockId), (s.sock n).tickLive = false → tickSocket n s = .ok s) ∧
  (∀ (s : State), ∃ t, exec .tick s = .next t ∧
    t.mr = s.mr ∧ t.idmAr = s.idmAr ∧ t.gwr = s.gwr ∧ t.subr = s.subr ∧ t.shar = s.shar ∧ t.sipr = s.sipr ∧
    t.imr = s.imr ∧ t.rmsr = s.rmsr ∧ t.tmsr = s.tmsr ∧ t.params = s.params ∧ t.busIn = s.busIn ∧
    (∀ n, (t.sock n).mr = (s.sock n).mr ∧ (t.sock n).port = (s.sock n).port ∧ (t.sock n).txWR = (s.sock n).txWR ∧
      (t.sock n).rxRD = (s.sock n).rxRD ∧ (t.sock n).oldRxRD = (s.sock n).oldRxRD ∧
      (t.sock n).lastSendMark = (s.sock n).lastSendMark ∧
      (s.params.acceptUpdatesDest = false → (t.sock n).dip = (s.sock n).dip ∧ (t.sock n).dport = (s.sock n).dport) ∧
      ((t.sock n).bound = (s.sock n).bound ∨ (t.sock n).bound = false) ∧
      ((t.sock n).bwc = (s.sock n).bwc ∨ (t.sock n).bwc = 0)) ∧
    (∀ (n : SockId) (o : BitVec 11),
      t.bufByte (0x4000 + n.val * 0x800 + o.toNat) = s.bufByte (0x4000 + n.val * 0x800 + o.toNat)))

/-- Processing socket n in a tick, whether it goes on or ends the tick by the model fault, leaves every other socket
as it is: all its fields, and every byte of its TX and RX buffers. -/
def Obligations.SocketSubStepsLeaveOtherSockets : Prop :=
  ∀ (s t : State) (n m : SockId), m ≠ n → (tickSocket n s = .ok t ∨ tickSocket n s = .error t) →
    t.sock m = s.sock m ∧
    ∀ o : BitVec 11, t.bufByte (0x4000 + m.val * 0x800 + o.toNat) = s.bufByte (0x4000 + m.val * 0x800 + o.toNat) ∧
      t.bufByte (0x6000 + m.val * 0x800 + o.toNat) = s.bufByte (0x6000 + m.val * 0x800 + o.toNat)

/-- One readable Udp socket with at least 9 bytes free. A datagram, cut to the free space less 8, is stored at the
ring positions after the held data as source IP, source port, delivered length and payload; rxAvail grows by 8 +
that length and RECV is set. When a flush is pending and the socket is writable too, the oldest queued datagram is
then sent in the same tick (complete send). NetRecvFrom answered Err stores nothing and sets no RECV, and the write
sub-step follows all the same: with a flush pending, the socket writable and a datagram queued, that datagram is
sent (complete send); with no flush pending or the socket not writable, nothing changes. Every other byte of memory
and every other field is unchanged. A datagram longer than asked for is cut by the model (R252 leaves that to the
oracle: notes/assumptions/2.md). It rests on the spec's own decisions D28, D29, D30, D33 (spec/92_eei_decisions.md;
notes/assumptions/6.md, 22.md). Model conventions: the oracle answers scripted in `netIn` (notes/assumptions/1.md);
no read data after a transaction that returns none (notes/assumptions/12.md). -/
def Obligations.UdpDatagramArrivesBehindItsPseudoHeader : Prop :=
  ∀ (s : State) (n : SockId) (f : Fd) (net : List NetAnswer),
    s.onlyOpen n f → (s.sock n).state = .udp → (s.sock n).rxAvail + 9 ≤ 2048 →
    (∀ (w : Bool) (p q : List Byte) (ip : Ip4) (port : Word), ((s.sock n).writePending = false ∨ w = false) →
      q = p.take (2040 - (s.sock n).rxAvail) → s.netIn = .ready true w :: .dgram p ip port :: net →
      ∃ m, s.rxStored n (dgramImage q ip port) m ∧
        exec .tick s = .next { (s.afterRequests n
          { (s.sock n) with
            rxAvail := (s.sock n).rxAvail + (8 + q.length), ir := (s.sock n).ir ||| 0b00100#5 }
          [.recvFrom (some f) (2040 - (s.sock n).rxAvail), .ready (some f) true (s.sock n).writePending] net)
          with mem := m }) ∧
    (∀ (p q : List Byte) (ip : Ip4) (port len : Word) (rest : List Word), (s.sock n).writePending = true →
      (s.sock n).dgq = len :: rest → len.toNat ≤ 2048 → q = p.take (2040 - (s.sock n).rxAvail) →
      s.netIn = .ready true true :: .dgram p ip port :: .sent len.toNat :: net →
      ∃ m b, s.rxStored n (dgramImage q ip port) m ∧ s.txHolds n len.toNat b ∧
        exec .tick s = .next { (s.afterRequests n
          { (s.sock n) with
            rxAvail := (s.sock n).rxAvail + (8 + q.length), ir := (s.sock n).ir ||| 0b10100#5
            txRR := (s.sock n).txRR + len, dgq := rest, writePending := !rest.isEmpty }
          [.sendTo (some f) b (s.sock n).dip (s.sock n).dport,
            .recvFrom (some f) (2040 - (s.sock n).rxAvail), .ready (some f) true true] net) with mem := m }) ∧
    (∀ (w : Bool), ((s.sock n).writePending = false ∨ w = false) → s.netIn = .ready true w :: .err :: net →
      exec .tick s = .next (s.afterRequests n (s.sock n)
        [.recvFrom (some f) (2040 - (s.sock n).rxAvail), .ready (some f) true (s.sock n).writePending] net)) ∧
    (∀ (len : Word) (rest : List Word), (s.sock n).writePending = true → (s.sock n).dgq = len :: rest →
      len.toNat ≤ 2048 → s.netIn = .ready true true :: .err :: .sent len.toNat :: net →
      ∃ b, s.txHolds n len.toNat b ∧
        exec .tick s = .next (s.afterRequests n
          { (s.sock n) with
            ir := (s.sock n).ir ||| 0b10000#5
            txRR := (s.sock n).txRR + len, dgq := rest, writePending := !rest.isEmpty }
          [.sendTo (some f) b (s.sock n).dip (s.sock n).dport,
            .recvFrom (some f) (2040 - (s.sock n).rxAvail), .ready (some f) true true] net))

/-- One readable Established or CloseWait socket with free RX space. The bytes are stored at the ring positions
after the held data, rxAvail grows by their number and RECV is set. When an Established socket with a flush pending
is writable too, one chunk of its promised bytes is then sent in the same tick; a CloseWait socket that is reported
writable with a flush pending sends nothing (R258, D32, notes/assumptions/22.md). NetRecv answered Err stores
nothing and sets no RECV, and the write sub-step follows all the same: with an Established socket, a flush pending,
bytes promised and the socket writable, the chunk is sent; with no flush pending, the socket not writable or in
CloseWait, nothing changes. Every other byte of memory and every other field is unchanged. It rests on the spec's
own decisions D26, D31, D32, D33 (spec/92_eei_decisions.md; notes/assumptions/22.md). Model conventions: the oracle
answers scripted in `netIn` (notes/assumptions/1.md); no read data after a transaction that returns none
(notes/assumptions/12.md). -/
def Obligations.TcpDataArriveInTheRing : Prop :=
  ∀ (s : State) (n : SockId) (f : Fd) (net : List NetAnswer), s.onlyOpen n f →
    (∀ (w : Bool) (b : List Byte), ((s.sock n).state = .established ∨ (s.sock n).state = .closeWait) →
      ((s.sock n).writePending = false ∨ w = false ∨ (s.sock n).state = .closeWait) →
      1 ≤ b.length → b.length + (s.sock n).rxAvail ≤ 2048 → s.netIn = .ready true w :: .data b :: net →
      ∃ m, s.rxStored n b m ∧
        exec .tick s = .next { (s.afterRequests n
          { (s.sock n) with rxAvail := (s.sock n).rxAvail + b.length, ir := (s.sock n).ir ||| 0b00100#5 }
          [.recv (some f) (2048 - (s.sock n).rxAvail), .ready (some f) true (s.sock n).writePending] net)
          with mem := m }) ∧
    (∀ (b : List Byte) (c k : Nat), (s.sock n).state = .established → (s.sock n).writePending = true →
      1 ≤ b.length → b.length + (s.sock n).rxAvail ≤ 2048 →
      c = min ((s.sock n).txWR - (s.sock n).txRR).toNat (2048 - (s.sock n).txRR.toNat % 2048) → 0 < c → k ≤ c →
      s.netIn = .ready true true :: .data b :: .sent k :: net →
      ∃ m d, s.rxStored n b m ∧ s.txHolds n c d ∧
        exec .tick s = .next { (s.afterRequests n
          (if (s.sock n).txRR + BitVec.ofNat 16 k = (s.sock n).txWR then
            { (s.sock n) with
              rxAvail := (s.sock n).rxAvail + b.length, ir := (s.sock n).ir ||| 0b10100#5
              txRR := (s.sock n).txWR, writePending := false }
          else
            { (s.sock n) with
              rxAvail := (s.sock n).rxAvail + b.length, ir := (s.sock n).ir ||| 0b00100#5
              txRR := (s.sock n).txRR + BitVec.ofNat 16 k })
          [.send (some f) d, .recv (some f) (2048 - (s.sock n).rxAvail), .ready (some f) true true] net)
          with mem := m }) ∧
    (∀ (w : Bool), ((s.sock n).state = .established ∨ (s.sock n).state = .closeWait) →
      ((s.sock n).writePending = false ∨ w = false ∨ (s.sock n).state = .closeWait) → (s.sock n).rxAvail < 2048 →
      s.netIn = .ready true w :: .err :: net →
      exec .tick s = .next (s.afterRequests n (s.sock n)
        [.recv (some f) (2048 - (s.sock n).rxAvail), .ready (some f) true (s.sock n).writePending] net)) ∧
    (∀ (c k : Nat), (s.sock n).state = .established → (s.sock n).writePending = true → (s.sock n).rxAvail < 2048 →
      c = min ((s.sock n).txWR - (s.sock n).txRR).toNat (2048 - (s.sock n).txRR.toNat % 2048) → 0 < c → k ≤ c →
      s.netIn = .ready true true :: .err :: .sent k :: net →
      ∃ d, s.txHolds n c d ∧
        exec .tick s = .next (s.afterRequests n
          (if (s.sock n).txRR + BitVec.ofNat 16 k = (s.sock n).txWR then
            { (s.sock n) with
              ir := (s.sock n).ir ||| 0b10000#5, txRR := (s.sock n).txWR, writePending := false }
          else { (s.sock n) with txRR := (s.sock n).txRR + BitVec.ofNat 16 k })
          [.send (some f) d, .recv (some f) (2048 - (s.sock n).rxAvail), .ready (some f) true true] net))

/-- One socket, with free RX space for the first two clauses. An EOF in Established leads to CloseWait and sets no
bit; an EOF in CloseWait sets DISCON, closes the descriptor and ends the socket's turn. Neither runs a flush,
pending or not, reported writable or not. A CloseWait socket with a flush pending that is reported writable sends
nothing and keeps the flush pending. That CloseWait flushes nothing is D32 (notes/assumptions/22.md). It rests on
the spec's own decisions D22, D27, D32 (spec/92_eei_decisions.md; notes/assumptions/6.md, 21.md, 22.md). Model
conventions: the oracle answers scripted in `netIn` (notes/assumptions/1.md); no read data after a transaction that
returns none (notes/assumptions/12.md). -/
def Obligations.EndOfStreamHalfClosesThenCloses : Prop :=
  ∀ (s : State) (n : SockId) (f : Fd) (net : List NetAnswer), s.onlyOpen n f →
    (∀ (w : Bool), (s.sock n).rxAvail < 2048 → s.netIn = .ready true w :: .eof :: net →
      ((s.sock n).state = .established →
        exec .tick s = .next (s.afterRequests n { (s.sock n) with state := .closeWait }
          [.recv (some f) (2048 - (s.sock n).rxAvail), .ready (some f) true (s.sock n).writePending] net)) ∧
      ((s.sock n).state = .closeWait →
        exec .tick s = .next (s.afterRequests n
          ({ (s.sock n) with ir := (s.sock n).ir ||| 0b00010#5 } : Socket).released
          [.close f, .recv (some f) (2048 - (s.sock n).rxAvail), .ready (some f) true (s.sock n).writePending] net))) ∧
    ((s.sock n).state = .closeWait → (s.sock n).writePending = true → s.netIn = .ready false true :: net →
      exec .tick s = .next (s.afterRequests n (s.sock n)
        [.ready (some f) (decide ((s.sock n).rxAvail < 2048)) true] net))

/-- With one writable Udp socket, a flush pending and the oldest length at most 2048: on a complete send txRR
advances by the length, the length is dequeued, SENDOK is set and the flush stays pending exactly while lengths
remain; on a short send or Err the queue and txRR stay and UDP_SHORT_SEND decides writePending; with no length
queued (a state no run reaches) only the pending flush ends. An answer Sent(k) with k above the length is outside
R12 and counts as a complete send by the model's choice (DESIGN CHOICE, notes/assumptions/2.md). It rests on the
spec's own decisions D28, D29 (spec/92_eei_decisions.md; notes/assumptions/6.md, 22.md). The spec marks R214 as its
own derivation. Model conventions: the oracle answers scripted in `netIn` (notes/assumptions/1.md); no read data
after a transaction that returns none (notes/assumptions/12.md). -/
def Obligations.DatagramFlushSendsTheOldestOrKeepsIt : Prop :=
  ∀ (s : State) (n : SockId) (f : Fd) (net : List NetAnswer),
    s.onlyOpen n f → (s.sock n).state = .udp → (s.sock n).writePending = true →
    (∀ (len : Word) (rest : List Word) (a : NetAnswer), (s.sock n).dgq = len :: rest → len.toNat ≤ 2048 →
      s.netIn = .ready false true :: a :: net →
      ∃ b : List Byte, s.txHolds n len.toNat b ∧
        (∀ k, a = .sent k → len.toNat ≤ k → exec .tick s = .next (s.afterRequests n
          { (s.sock n) with
            txRR := (s.sock n).txRR + len, dgq := rest, ir := (s.sock n).ir ||| 0b10000#5
            writePending := !rest.isEmpty }
          [.sendTo (some f) b (s.sock n).dip (s.sock n).dport,
            .ready (some f) (decide ((s.sock n).rxAvail + 9 ≤ 2048)) true] net)) ∧
        (a = .err ∨ (∃ k, a = .sent k ∧ k < len.toNat) → exec .tick s = .next (s.afterRequests n
          { (s.sock n) with writePending := s.params.udpShortSend == .retain }
          [.sendTo (some f) b (s.sock n).dip (s.sock n).dport,
            .ready (some f) (decide ((s.sock n).rxAvail + 9 ≤ 2048)) true] net))) ∧
    ((s.sock n).dgq = [] → s.netIn = .ready false true :: net →
      exec .tick s = .next (s.afterRequests n { (s.sock n) with writePending := false }
        [.ready (some f) (decide ((s.sock n).rxAvail + 9 ≤ 2048)) true] net))

/-- With one writable Udp socket whose oldest queued length is over 2048 and no earlier fault, the tick sets the
model fault and changes nothing else of the block, also when the socket was readable and a receive was answered
first. And whatever the sockets are, a tick that raises a model fault raises DGRAM_TOO_LONG and changes nothing else
of the block. That the requests already issued and the answers already taken stay so, being the environment's, is
the model's reading of R286 and R36 (DEDUCED, notes/assumptions/14.md). It rests on the spec's own decisions D24,
D28, D29 (spec/92_eei_decisions.md; notes/assumptions/6.md, 21.md, 22.md). Model conventions: the oracle answers
scripted in `netIn` (notes/assumptions/1.md); no read data after a transaction that returns none
(notes/assumptions/12.md). -/
def Obligations.OverlongDatagramRaisesTheModelFault : Prop :=
  (∀ (s : State) (n : SockId) (f : Fd) (len : Word) (rest : List Word) (net : List NetAnswer),
    s.onlyOpen n f → (s.sock n).state = .udp → (s.sock n).writePending = true → (s.sock n).dgq = len :: rest →
    2048 < len.toNat → s.fault = none →
    (s.netIn = .ready false true :: net → exec .tick s = .next { (s.afterRequests n (s.sock n)
      [.ready (some f) (decide ((s.sock n).rxAvail + 9 ≤ 2048)) true] net) with fault := some .dgramTooLong }) ∧
    (∀ a : NetAnswer, (s.sock n).rxAvail + 9 ≤ 2048 → s.netIn = .ready true true :: a :: net →
      exec .tick s = .next { (s.afterRequests n (s.sock n)
        [.recvFrom (some f) (2040 - (s.sock n).rxAvail), .ready (some f) true true] net)
        with fault := some .dgramTooLong })) ∧
  (∀ s t : State, exec .tick s = .next t → s.fault = none → t.fault ≠ none →
    t = { s with fault := some .dgramTooLong, busRdata := none, netOut := t.netOut, netIn := t.netIn })

/-- With one writable Established socket and a flush pending: the chunk offered is the promised bytes up to the end
of the ring; txRR advances by what was sent; SENDOK is set and the flush ends exactly when txRR reaches txWR.
NetSend answered Err changes nothing. With nothing promised (txRR = txWR) no NetSend is issued, SENDOK is set and
the flush ends. It rests on the spec's own decision D31 (spec/92_eei_decisions.md; notes/assumptions/22.md). The
spec marks R214 as its own derivation. Model conventions: the oracle answers scripted in `netIn`
(notes/assumptions/1.md); no read data after a transaction that returns none (notes/assumptions/12.md). -/
def Obligations.StreamFlushSendsWithoutStraddling : Prop :=
  ∀ (s : State) (n : SockId) (f : Fd) (net : List NetAnswer),
    s.onlyOpen n f → (s.sock n).state = .established → (s.sock n).writePending = true →
    (∀ (c : Nat) (a : NetAnswer),
      c = min ((s.sock n).txWR - (s.sock n).txRR).toNat (2048 - (s.sock n).txRR.toNat % 2048) → 0 < c →
      s.netIn = .ready false true :: a :: net →
      ∃ b : List Byte, s.txHolds n c b ∧
        (∀ k, a = .sent k → k ≤ c → (s.sock n).txRR + BitVec.ofNat 16 k = (s.sock n).txWR →
          exec .tick s = .next (s.afterRequests n
            { (s.sock n) with
              txRR := (s.sock n).txWR, writePending := false, ir := (s.sock n).ir ||| 0b10000#5 }
            [.send (some f) b, .ready (some f) (decide ((s.sock n).rxAvail < 2048)) true] net)) ∧
        (∀ k, a = .sent k → k ≤ c → (s.sock n).txRR + BitVec.ofNat 16 k ≠ (s.sock n).txWR →
          exec .tick s = .next (s.afterRequests n
            { (s.sock n) with txRR := (s.sock n).txRR + BitVec.ofNat 16 k }
            [.send (some f) b, .ready (some f) (decide ((s.sock n).rxAvail < 2048)) true] net)) ∧
        (a = .err → exec .tick s = .next (s.afterRequests n (s.sock n)
          [.send (some f) b, .ready (some f) (decide ((s.sock n).rxAvail < 2048)) true] net))) ∧
    ((s.sock n).txRR = (s.sock n).txWR → s.netIn = .ready false true :: net →
      exec .tick s = .next (s.afterRequests n
        { (s.sock n) with writePending := false, ir := (s.sock n).ir ||| 0b10000#5 }
        [.ready (some f) (decide ((s.sock n).rxAvail < 2048)) true] net))

/-- With one writable Connecting socket: NetConnectAgain Ok leads to Established with CON; Fail closes the
descriptor, leads to Closed and sets CON, not DISCON. Not writable, nothing changes: nothing times out (R291). With
two writable Connecting sockets open, the requests of the lower one all come first, and its failure does not keep
the higher one from connecting. That an asynchronous failure sets CON and not DISCON is D42
(notes/assumptions/22.md). It rests on the spec's own decision D22 (spec/92_eei_decisions.md;
notes/assumptions/21.md). Model conventions: the oracle answers scripted in `netIn` (notes/assumptions/1.md); no
read data after a transaction that returns none (notes/assumptions/12.md). -/
def Obligations.ConnectCompletionSetsConEitherWay : Prop :=
  (∀ (s : State) (n : SockId) (f : Fd) (net : List NetAnswer),
    s.onlyOpen n f → (s.sock n).state = .connecting →
    (s.netIn = .ready false true :: .ok :: net → exec .tick s = .next (s.afterRequests n
      { (s.sock n) with state := .established, ir := (s.sock n).ir ||| 0b00001#5 }
      [.connectAgain (some f) (s.sock n).dip (s.sock n).dport, .ready (some f) false true] net)) ∧
    (s.netIn = .ready false true :: .fail :: net → exec .tick s = .next (s.afterRequests n
      ({ (s.sock n) with ir := (s.sock n).ir ||| 0b00001#5 } : Socket).released
      [.close f, .connectAgain (some f) (s.sock n).dip (s.sock n).dport, .ready (some f) false true] net)) ∧
    (s.netIn = .ready false false :: net → exec .tick s = .next (s.afterRequests n (s.sock n)
      [.ready (some f) false true] net))) ∧
  (∀ (s : State) (n m : SockId) (f g : Fd) (net : List NetAnswer), n < m →
    (s.sock n).fd = some f → (s.sock m).fd = some g → (∀ i, i ≠ n → i ≠ m → (s.sock i).fd = none) →
    (∀ i, (s.sock i).tickLive = false) → (s.sock n).state = .connecting → (s.sock m).state = .connecting →
    s.netIn = .ready false true :: .fail :: .ready false true :: .ok :: net →
    exec .tick s = .next { s with
      socks := (s.socks.set n ({ (s.sock n) with ir := (s.sock n).ir ||| 0b00001#5 } : Socket).released).set m
        { (s.sock m) with state := .established, ir := (s.sock m).ir ||| 0b00001#5 }
      netOut := [.connectAgain (some g) (s.sock m).dip (s.sock m).dport, .ready (some g) false true,
        .close f, .connectAgain (some f) (s.sock n).dip (s.sock n).dport, .ready (some f) false true] ++ s.netOut
      netIn := net, busRdata := none })

/-- With one readable Listen socket: on an accepted connection the listening descriptor is closed, the token the
oracle gave, any but the listening one's, is the socket's, the state is Established, CON is set only if
ACCEPT_SETS_CON and the destination taken only if ACCEPT_UPDATES_DEST; on failure the socket stays in Listen. It
rests on the spec's own decisions D27, D41 (spec/92_eei_decisions.md; notes/assumptions/1.md, 6.md, 22.md). Model
conventions: the oracle answers scripted in `netIn` (notes/assumptions/1.md); a token is a natural number, any that
no socket holds (notes/assumptions/3.md); no read data after a transaction that returns none
(notes/assumptions/12.md). -/
def Obligations.AcceptReplacesTheListeningDescriptor : Prop :=
  ∀ (s : State) (n : SockId) (f g : Fd) (ip : Ip4) (port : Word) (net : List NetAnswer),
    s.onlyOpen n f → (s.sock n).state = .listen → (s.sock n).writePending = false →
    (g ≠ f → s.netIn = .ready true false :: .accepted g ip port :: net → exec .tick s = .next (s.afterRequests n
      { (s.sock n) with
        fd := some g, state := .established
        ir := if s.params.acceptSetsCon then (s.sock n).ir ||| 0b00001#5 else (s.sock n).ir
        dip := if s.params.acceptUpdatesDest then ip else (s.sock n).dip
        dport := if s.params.acceptUpdatesDest then port else (s.sock n).dport }
      [.close f, .accept (some f), .ready (some f) true false] net)) ∧
    (s.netIn = .ready true false :: .fail :: net → exec .tick s = .next (s.afterRequests n (s.sock n)
      [.accept (some f), .ready (some f) true false] net))

/-- From every state that meets the invariant (each socket well formed: descriptor exactly when not Closed, mode
accepted, counters and queue in range, rxAvail at most 2048, TIMEOUT 0; MR bit 7 zero; buffer memory canonical;
descriptors distinct) a step that answers a next state keeps it. It rests on the spec's own decisions D2, D3, D24,
D41 (spec/92_eei_decisions.md; notes/assumptions/1.md, 8.md, 21.md). The spec marks R34, R221 as its own derivation.
-/
def Obligations.StepKeepsTheInvariant : Prop :=
  ∀ (s t : State), s.Inv → step s = .next t → t.Inv

/-- The state after power-up reset, with any open parameters, meets the invariant that every step keeps. It rests on
the spec's own decision D34 (spec/92_eei_decisions.md; notes/assumptions/15.md). -/
def Obligations.ResetMeetsTheInvariant : Prop :=
  ∀ (p : Params), ({ State.reset with params := p } : State).Inv

/-- For every choice of the open parameters and under every environment of transactions and network answers, in
every reachable state a descriptor is present if and only if the socket state is not Closed. As a step lemma this is
a clause of StepKeepsTheInvariant. The spec marks R34 as its own derivation. -/
def Obligations.DescriptorExactlyWhenOpen : Prop :=
  ∀ (p : Params) (s : State), Reachable p s → ∀ n, ((s.sock n).fd ≠ none ↔ (s.sock n).state ≠ .closed)

/-- A step from a state whose TIMEOUT bits are 0 leaves them 0, and in every reachable state a read of Sn_IR answers
a byte with bit 3 clear. -/
def Obligations.TimeoutBitAlwaysReadsZero : Prop :=
  (∀ (s t : State), (∀ n, (s.sock n).ir.getLsbD 3 = false) → step s = .next t →
    ∀ n, (t.sock n).ir.getLsbD 3 = false) ∧
  (∀ (p : Params) (s : State), Reachable p s → ∀ n, ∃ b, exec (.rdSnIr n) s = .next { s with busRdata := some b } ∧
    b.getLsbD 3 = false)

/-- Once the model fault is set every next state has the same fault, resets included. That the open parameters never
change is the model's own invariant (notes/assumptions/6.md). It rests on the spec's own decisions D24, D29
(spec/92_eei_decisions.md; notes/assumptions/21.md, 22.md). -/
def Obligations.ModelFaultIsSticky : Prop :=
  ∀ (s t : State), step s = .next t → (∀ k, s.fault = some k → t.fault = some k) ∧ t.params = s.params

/-- In direct mode and through every register of the indirect shim: a READ issues no network request and consumes no
answer, and neither does a WRITE, unless the internal address it writes is Sn_CR, Sn_PORT0 or Sn_PORT1 of some
socket, or it is MR and bit 7 of the byte is set (a soft reset, which closes descriptors). That bit 7 of MR is the
reset bit is D2 (notes/assumptions/8.md, PRESUMED). It rests on the spec's own decisions D1, D2, D18
(spec/92_eei_decisions.md; notes/assumptions/7.md, 8.md, 21.md). The spec marks R79 as its own derivation. Model
conventions: the oracle answers scripted in `netIn` (notes/assumptions/1.md). -/
def Obligations.OtherBusTransactionsReachNoNetwork : Prop :=
  ∀ (s t : State) (h : Word) (hi : BitVec 14) (v : Byte),
    (exec (.hrdDirect h) s = .next t → t.netOut = s.netOut ∧ t.netIn = s.netIn) ∧
    (exec (.hrdMrInd hi) s = .next t → t.netOut = s.netOut ∧ t.netIn = s.netIn) ∧
    (exec (.hrdIdmAr0 hi) s = .next t → t.netOut = s.netOut ∧ t.netIn = s.netIn) ∧
    (exec (.hrdIdmAr1 hi) s = .next t → t.netOut = s.netOut ∧ t.netIn = s.netIn) ∧
    (exec (.hrdIdmDr hi) s = .next t → t.netOut = s.netOut ∧ t.netIn = s.netIn) ∧
    (exec (.hwrDirect h v) s = .next t → ¬ (h = 0x0000#16 ∧ v.getLsbD 7 = true) →
      (∀ n, h ≠ sockAddr n 0x01#8 ∧ h ≠ sockAddr n 0x04#8 ∧ h ≠ sockAddr n 0x05#8) →
      t.netOut = s.netOut ∧ t.netIn = s.netIn) ∧
    (exec (.hwrMrInd hi v) s = .next t → v.getLsbD 7 = false → t.netOut = s.netOut ∧ t.netIn = s.netIn) ∧
    (exec (.hwrIdmAr0 hi v) s = .next t → t.netOut = s.netOut ∧ t.netIn = s.netIn) ∧
    (exec (.hwrIdmAr1 hi v) s = .next t → t.netOut = s.netOut ∧ t.netIn = s.netIn) ∧
    (exec (.hwrIdmDr hi v) s = .next t → ¬ (s.idmAr = 0x0000#16 ∧ v.getLsbD 7 = true) →
      (∀ n, s.idmAr ≠ sockAddr n 0x01#8 ∧ s.idmAr ≠ sockAddr n 0x04#8 ∧ s.idmAr ≠ sockAddr n 0x05#8) →
      t.netOut = s.netOut ∧ t.netIn = s.netIn)
end

