-- ==== Sys2Proof/Laws/State.lean ====
section
/-! SUPPORT. The small lemmas of the state: one per field per update, so that no later proof unfolds a record
update; and the laws of `Quad` that socket access rests on. -/

namespace Sys2Proof

@[simp] theorem Quad.get_set_same {α : Type} (q : Quad α) (n : Fin 4) (x : α) : (q.set n x).get n = x := by
  match n with
  | 0 | 1 | 2 | 3 => rfl

theorem Quad.get_set_other {α : Type} (q : Quad α) (n m : Fin 4) (x : α) (h : m ≠ n) :
    (q.set n x).get m = q.get m := by
  match n, m with
  | 0, 0 | 1, 1 | 2, 2 | 3, 3 => exact absurd rfl h
  | 0, 1 | 0, 2 | 0, 3 | 1, 0 | 1, 2 | 1, 3 | 2, 0 | 2, 1 | 2, 3 | 3, 0 | 3, 1 | 3, 2 => rfl

theorem Quad.get_set {α : Type} (q : Quad α) (n m : Fin 4) (x : α) :
    (q.set n x).get m = if m = n then x else q.get m := by
  split
  · next h => subst h; exact Quad.get_set_same q m x
  · next h => exact Quad.get_set_other q n m x h

@[simp] theorem Quad.set_set {α : Type} (q : Quad α) (n : Fin 4) (x y : α) : (q.set n x).set n y = q.set n y := by
  match n with
  | 0 | 1 | 2 | 3 => rfl

@[simp] theorem Quad.set_get {α : Type} (q : Quad α) (n : Fin 4) : q.set n (q.get n) = q := by
  match n with
  | 0 | 1 | 2 | 3 => rfl

theorem Quad.ext_get {α : Type} (q r : Quad α) (h : ∀ n, q.get n = r.get n) : q = r := by
  have h0 : q.e0 = r.e0 := h 0
  have h1 : q.e1 = r.e1 := h 1
  have h2 : q.e2 = r.e2 := h 2
  have h3 : q.e3 = r.e3 := h 3
  cases q; cases r; simp_all

namespace Machine

variable (s : State)

@[simp] theorem sock_e0 : s.socks.e0 = s.sock 0 := rfl
@[simp] theorem sock_e1 : s.socks.e1 = s.sock 1 := rfl
@[simp] theorem sock_e2 : s.socks.e2 = s.sock 2 := rfl
@[simp] theorem sock_e3 : s.socks.e3 = s.sock 3 := rfl

@[simp] theorem sock_setSock_same (n : SockId) (k : Socket) : (s.setSock n k).sock n = k := Quad.get_set_same _ _ _

theorem sock_setSock_other (n m : SockId) (k : Socket) (h : m ≠ n) : (s.setSock n k).sock m = s.sock m :=
  Quad.get_set_other _ _ _ _ h

theorem sock_setSock (n m : SockId) (k : Socket) : (s.setSock n k).sock m = if m = n then k else s.sock m :=
  Quad.get_set _ _ _ _

@[simp] theorem setSock_setSock (n : SockId) (k l : Socket) : (s.setSock n k).setSock n l = s.setSock n l := by
  simp [State.setSock]

@[simp] theorem setSock_sock (n : SockId) : s.setSock n (s.sock n) = s := by
  simp [State.setSock, State.sock]

/-! ### setSock -/

@[simp] theorem setSock_mr (n : SockId) (k : Socket) : (s.setSock n k).mr = s.mr := rfl
@[simp] theorem setSock_idmAr (n : SockId) (k : Socket) : (s.setSock n k).idmAr = s.idmAr := rfl
@[simp] theorem setSock_gwr (n : SockId) (k : Socket) : (s.setSock n k).gwr = s.gwr := rfl
@[simp] theorem setSock_subr (n : SockId) (k : Socket) : (s.setSock n k).subr = s.subr := rfl
@[simp] theorem setSock_shar (n : SockId) (k : Socket) : (s.setSock n k).shar = s.shar := rfl
@[simp] theorem setSock_sipr (n : SockId) (k : Socket) : (s.setSock n k).sipr = s.sipr := rfl
@[simp] theorem setSock_imr (n : SockId) (k : Socket) : (s.setSock n k).imr = s.imr := rfl
@[simp] theorem setSock_rmsr (n : SockId) (k : Socket) : (s.setSock n k).rmsr = s.rmsr := rfl
@[simp] theorem setSock_tmsr (n : SockId) (k : Socket) : (s.setSock n k).tmsr = s.tmsr := rfl
@[simp] theorem setSock_fault (n : SockId) (k : Socket) : (s.setSock n k).fault = s.fault := rfl
@[simp] theorem setSock_socks (n : SockId) (k : Socket) : (s.setSock n k).socks = s.socks.set n k := rfl
@[simp] theorem setSock_mem (n : SockId) (k : Socket) : (s.setSock n k).mem = s.mem := rfl
@[simp] theorem setSock_busRdata (n : SockId) (k : Socket) : (s.setSock n k).busRdata = s.busRdata := rfl
@[simp] theorem setSock_busIn (n : SockId) (k : Socket) : (s.setSock n k).busIn = s.busIn := rfl
@[simp] theorem setSock_netIn (n : SockId) (k : Socket) : (s.setSock n k).netIn = s.netIn := rfl
@[simp] theorem setSock_netOut (n : SockId) (k : Socket) : (s.setSock n k).netOut = s.netOut := rfl
@[simp] theorem setSock_draws (n : SockId) (k : Socket) : (s.setSock n k).draws = s.draws := rfl
@[simp] theorem setSock_powerUps (n : SockId) (k : Socket) : (s.setSock n k).powerUps = s.powerUps := rfl
@[simp] theorem setSock_params (n : SockId) (k : Socket) : (s.setSock n k).params = s.params := rfl
@[simp] theorem setSock_bufByte (n : SockId) (k : Socket) (c : Nat) : (s.setSock n k).bufByte c = s.bufByte c := rfl

/-! ### issue -/

@[simp] theorem issue_mr (q : NetRequest) : (s.issue q).mr = s.mr := rfl
@[simp] theorem issue_idmAr (q : NetRequest) : (s.issue q).idmAr = s.idmAr := rfl
@[simp] theorem issue_gwr (q : NetRequest) : (s.issue q).gwr = s.gwr := rfl
@[simp] theorem issue_subr (q : NetRequest) : (s.issue q).subr = s.subr := rfl
@[simp] theorem issue_shar (q : NetRequest) : (s.issue q).shar = s.shar := rfl
@[simp] theorem issue_sipr (q : NetRequest) : (s.issue q).sipr = s.sipr := rfl
@[simp] theorem issue_imr (q : NetRequest) : (s.issue q).imr = s.imr := rfl
@[simp] theorem issue_rmsr (q : NetRequest) : (s.issue q).rmsr = s.rmsr := rfl
@[simp] theorem issue_tmsr (q : NetRequest) : (s.issue q).tmsr = s.tmsr := rfl
@[simp] theorem issue_fault (q : NetRequest) : (s.issue q).fault = s.fault := rfl
@[simp] theorem issue_socks (q : NetRequest) : (s.issue q).socks = s.socks := rfl
@[simp] theorem issue_mem (q : NetRequest) : (s.issue q).mem = s.mem := rfl
@[simp] theorem issue_busRdata (q : NetRequest) : (s.issue q).busRdata = s.busRdata := rfl
@[simp] theorem issue_busIn (q : NetRequest) : (s.issue q).busIn = s.busIn := rfl
@[simp] theorem issue_netIn (q : NetRequest) : (s.issue q).netIn = s.netIn := rfl
@[simp] theorem issue_netOut (q : NetRequest) : (s.issue q).netOut = q :: s.netOut := rfl
@[simp] theorem issue_draws (q : NetRequest) : (s.issue q).draws = s.draws := rfl
@[simp] theorem issue_powerUps (q : NetRequest) : (s.issue q).powerUps = s.powerUps := rfl
@[simp] theorem issue_params (q : NetRequest) : (s.issue q).params = s.params := rfl
@[simp] theorem issue_sock (q : NetRequest) (m : SockId) : (s.issue q).sock m = s.sock m := rfl
@[simp] theorem issue_bufByte (q : NetRequest) (c : Nat) : (s.issue q).bufByte c = s.bufByte c := rfl

/-! ### asked -/

@[simp] theorem asked_mr (q : NetRequest) : (s.asked q).mr = s.mr := rfl
@[simp] theorem asked_idmAr (q : NetRequest) : (s.asked q).idmAr = s.idmAr := rfl
@[simp] theorem asked_gwr (q : NetRequest) : (s.asked q).gwr = s.gwr := rfl
@[simp] theorem asked_subr (q : NetRequest) : (s.asked q).subr = s.subr := rfl
@[simp] theorem asked_shar (q : NetRequest) : (s.asked q).shar = s.shar := rfl
@[simp] theorem asked_sipr (q : NetRequest) : (s.asked q).sipr = s.sipr := rfl
@[simp] theorem asked_imr (q : NetRequest) : (s.asked q).imr = s.imr := rfl
@[simp] theorem asked_rmsr (q : NetRequest) : (s.asked q).rmsr = s.rmsr := rfl
@[simp] theorem asked_tmsr (q : NetRequest) : (s.asked q).tmsr = s.tmsr := rfl
@[simp] theorem asked_fault (q : NetRequest) : (s.asked q).fault = s.fault := rfl
@[simp] theorem asked_socks (q : NetRequest) : (s.asked q).socks = s.socks := rfl
@[simp] theorem asked_mem (q : NetRequest) : (s.asked q).mem = s.mem := rfl
@[simp] theorem asked_busRdata (q : NetRequest) : (s.asked q).busRdata = s.busRdata := rfl
@[simp] theorem asked_busIn (q : NetRequest) : (s.asked q).busIn = s.busIn := rfl
@[simp] theorem asked_netIn (q : NetRequest) : (s.asked q).netIn = s.netIn.tail := rfl
@[simp] theorem asked_netOut (q : NetRequest) : (s.asked q).netOut = q :: s.netOut := rfl
@[simp] theorem asked_draws (q : NetRequest) : (s.asked q).draws = s.draws := rfl
@[simp] theorem asked_powerUps (q : NetRequest) : (s.asked q).powerUps = s.powerUps := rfl
@[simp] theorem asked_params (q : NetRequest) : (s.asked q).params = s.params := rfl
@[simp] theorem asked_sock (q : NetRequest) (m : SockId) : (s.asked q).sock m = s.sock m := rfl
@[simp] theorem asked_bufByte (q : NetRequest) (c : Nat) : (s.asked q).bufByte c = s.bufByte c := rfl

/-! ### endedByFault -/

@[simp] theorem endedByFault_mr (t : State) : (s.endedByFault t).mr = s.mr := rfl
@[simp] theorem endedByFault_idmAr (t : State) : (s.endedByFault t).idmAr = s.idmAr := rfl
@[simp] theorem endedByFault_gwr (t : State) : (s.endedByFault t).gwr = s.gwr := rfl
@[simp] theorem endedByFault_subr (t : State) : (s.endedByFault t).subr = s.subr := rfl
@[simp] theorem endedByFault_shar (t : State) : (s.endedByFault t).shar = s.shar := rfl
@[simp] theorem endedByFault_sipr (t : State) : (s.endedByFault t).sipr = s.sipr := rfl
@[simp] theorem endedByFault_imr (t : State) : (s.endedByFault t).imr = s.imr := rfl
@[simp] theorem endedByFault_rmsr (t : State) : (s.endedByFault t).rmsr = s.rmsr := rfl
@[simp] theorem endedByFault_tmsr (t : State) : (s.endedByFault t).tmsr = s.tmsr := rfl
@[simp] theorem endedByFault_fault (t : State) : (s.endedByFault t).fault = t.fault := rfl
@[simp] theorem endedByFault_socks (t : State) : (s.endedByFault t).socks = s.socks := rfl
@[simp] theorem endedByFault_mem (t : State) : (s.endedByFault t).mem = s.mem := rfl
@[simp] theorem endedByFault_busRdata (t : State) : (s.endedByFault t).busRdata = s.busRdata := rfl
@[simp] theorem endedByFault_busIn (t : State) : (s.endedByFault t).busIn = s.busIn := rfl
@[simp] theorem endedByFault_netIn (t : State) : (s.endedByFault t).netIn = t.netIn := rfl
@[simp] theorem endedByFault_netOut (t : State) : (s.endedByFault t).netOut = t.netOut := rfl
@[simp] theorem endedByFault_draws (t : State) : (s.endedByFault t).draws = s.draws := rfl
@[simp] theorem endedByFault_powerUps (t : State) : (s.endedByFault t).powerUps = s.powerUps := rfl
@[simp] theorem endedByFault_params (t : State) : (s.endedByFault t).params = s.params := rfl
@[simp] theorem endedByFault_sock (t : State) (m : SockId) : (s.endedByFault t).sock m = s.sock m := rfl
@[simp] theorem endedByFault_bufByte (t : State) (c : Nat) : (s.endedByFault t).bufByte c = s.bufByte c := rfl

/-! ### setBuf -/

@[simp] theorem setBuf_mr (a : Nat) (v : Byte) : (s.setBuf a v).mr = s.mr := rfl
@[simp] theorem setBuf_idmAr (a : Nat) (v : Byte) : (s.setBuf a v).idmAr = s.idmAr := rfl
@[simp] theorem setBuf_gwr (a : Nat) (v : Byte) : (s.setBuf a v).gwr = s.gwr := rfl
@[simp] theorem setBuf_subr (a : Nat) (v : Byte) : (s.setBuf a v).subr = s.subr := rfl
@[simp] theorem setBuf_shar (a : Nat) (v : Byte) : (s.setBuf a v).shar = s.shar := rfl
@[simp] theorem setBuf_sipr (a : Nat) (v : Byte) : (s.setBuf a v).sipr = s.sipr := rfl
@[simp] theorem setBuf_imr (a : Nat) (v : Byte) : (s.setBuf a v).imr = s.imr := rfl
@[simp] theorem setBuf_rmsr (a : Nat) (v : Byte) : (s.setBuf a v).rmsr = s.rmsr := rfl
@[simp] theorem setBuf_tmsr (a : Nat) (v : Byte) : (s.setBuf a v).tmsr = s.tmsr := rfl
@[simp] theorem setBuf_fault (a : Nat) (v : Byte) : (s.setBuf a v).fault = s.fault := rfl
@[simp] theorem setBuf_socks (a : Nat) (v : Byte) : (s.setBuf a v).socks = s.socks := rfl
@[simp] theorem setBuf_mem (a : Nat) (v : Byte) : (s.setBuf a v).mem = memSet s.mem a v := rfl
@[simp] theorem setBuf_busRdata (a : Nat) (v : Byte) : (s.setBuf a v).busRdata = s.busRdata := rfl
@[simp] theorem setBuf_busIn (a : Nat) (v : Byte) : (s.setBuf a v).busIn = s.busIn := rfl
@[simp] theorem setBuf_netIn (a : Nat) (v : Byte) : (s.setBuf a v).netIn = s.netIn := rfl
@[simp] theorem setBuf_netOut (a : Nat) (v : Byte) : (s.setBuf a v).netOut = s.netOut := rfl
@[simp] theorem setBuf_draws (a : Nat) (v : Byte) : (s.setBuf a v).draws = s.draws := rfl
@[simp] theorem setBuf_powerUps (a : Nat) (v : Byte) : (s.setBuf a v).powerUps = s.powerUps := rfl
@[simp] theorem setBuf_params (a : Nat) (v : Byte) : (s.setBuf a v).params = s.params := rfl
@[simp] theorem setBuf_sock (a : Nat) (v : Byte) (m : SockId) : (s.setBuf a v).sock m = s.sock m := rfl

/-! ### answerRead -/

@[simp] theorem answerRead_mr (v : Byte) : (answerRead v s).mr = s.mr := rfl
@[simp] theorem answerRead_idmAr (v : Byte) : (answerRead v s).idmAr = s.idmAr := rfl
@[simp] theorem answerRead_gwr (v : Byte) : (answerRead v s).gwr = s.gwr := rfl
@[simp] theorem answerRead_subr (v : Byte) : (answerRead v s).subr = s.subr := rfl
@[simp] theorem answerRead_shar (v : Byte) : (answerRead v s).shar = s.shar := rfl
@[simp] theorem answerRead_sipr (v : Byte) : (answerRead v s).sipr = s.sipr := rfl
@[simp] theorem answerRead_imr (v : Byte) : (answerRead v s).imr = s.imr := rfl
@[simp] theorem answerRead_rmsr (v : Byte) : (answerRead v s).rmsr = s.rmsr := rfl
@[simp] theorem answerRead_tmsr (v : Byte) : (answerRead v s).tmsr = s.tmsr := rfl
@[simp] theorem answerRead_fault (v : Byte) : (answerRead v s).fault = s.fault := rfl
@[simp] theorem answerRead_socks (v : Byte) : (answerRead v s).socks = s.socks := rfl
@[simp] theorem answerRead_mem (v : Byte) : (answerRead v s).mem = s.mem := rfl
@[simp] theorem answerRead_busRdata (v : Byte) : (answerRead v s).busRdata = some v := rfl
@[simp] theorem answerRead_busIn (v : Byte) : (answerRead v s).busIn = s.busIn := rfl
@[simp] theorem answerRead_netIn (v : Byte) : (answerRead v s).netIn = s.netIn := rfl
@[simp] theorem answerRead_netOut (v : Byte) : (answerRead v s).netOut = s.netOut := rfl
@[simp] theorem answerRead_draws (v : Byte) : (answerRead v s).draws = s.draws := rfl
@[simp] theorem answerRead_powerUps (v : Byte) : (answerRead v s).powerUps = s.powerUps := rfl
@[simp] theorem answerRead_params (v : Byte) : (answerRead v s).params = s.params := rfl
@[simp] theorem answerRead_sock (v : Byte) (m : SockId) : (answerRead v s).sock m = s.sock m := rfl
@[simp] theorem answerRead_bufByte (v : Byte) (c : Nat) : (answerRead v s).bufByte c = s.bufByte c := rfl

/-! ### answerNone -/

@[simp] theorem answerNone_mr : (answerNone s).mr = s.mr := rfl
@[simp] theorem answerNone_idmAr : (answerNone s).idmAr = s.idmAr := rfl
@[simp] theorem answerNone_gwr : (answerNone s).gwr = s.gwr := rfl
@[simp] theorem answerNone_subr : (answerNone s).subr = s.subr := rfl
@[simp] theorem answerNone_shar : (answerNone s).shar = s.shar := rfl
@[simp] theorem answerNone_sipr : (answerNone s).sipr = s.sipr := rfl
@[simp] theorem answerNone_imr : (answerNone s).imr = s.imr := rfl
@[simp] theorem answerNone_rmsr : (answerNone s).rmsr = s.rmsr := rfl
@[simp] theorem answerNone_tmsr : (answerNone s).tmsr = s.tmsr := rfl
@[simp] theorem answerNone_fault : (answerNone s).fault = s.fault := rfl
@[simp] theorem answerNone_socks : (answerNone s).socks = s.socks := rfl
@[simp] theorem answerNone_mem : (answerNone s).mem = s.mem := rfl
@[simp] theorem answerNone_busRdata : (answerNone s).busRdata = none := rfl
@[simp] theorem answerNone_busIn : (answerNone s).busIn = s.busIn := rfl
@[simp] theorem answerNone_netIn : (answerNone s).netIn = s.netIn := rfl
@[simp] theorem answerNone_netOut : (answerNone s).netOut = s.netOut := rfl
@[simp] theorem answerNone_draws : (answerNone s).draws = s.draws := rfl
@[simp] theorem answerNone_powerUps : (answerNone s).powerUps = s.powerUps := rfl
@[simp] theorem answerNone_params : (answerNone s).params = s.params := rfl
@[simp] theorem answerNone_sock (m : SockId) : (answerNone s).sock m = s.sock m := rfl
@[simp] theorem answerNone_bufByte (c : Nat) : (answerNone s).bufByte c = s.bufByte c := rfl

/-! ### taken -/

@[simp] theorem taken_mr : s.taken.mr = s.mr := rfl
@[simp] theorem taken_idmAr : s.taken.idmAr = s.idmAr := rfl
@[simp] theorem taken_gwr : s.taken.gwr = s.gwr := rfl
@[simp] theorem taken_subr : s.taken.subr = s.subr := rfl
@[simp] theorem taken_shar : s.taken.shar = s.shar := rfl
@[simp] theorem taken_sipr : s.taken.sipr = s.sipr := rfl
@[simp] theorem taken_imr : s.taken.imr = s.imr := rfl
@[simp] theorem taken_rmsr : s.taken.rmsr = s.rmsr := rfl
@[simp] theorem taken_tmsr : s.taken.tmsr = s.tmsr := rfl
@[simp] theorem taken_fault : s.taken.fault = s.fault := rfl
@[simp] theorem taken_socks : s.taken.socks = s.socks := rfl
@[simp] theorem taken_mem : s.taken.mem = s.mem := rfl
@[simp] theorem taken_busRdata : s.taken.busRdata = s.busRdata := rfl
@[simp] theorem taken_busIn : s.taken.busIn = s.busIn.tail := rfl
@[simp] theorem taken_netIn : s.taken.netIn = s.netIn := rfl
@[simp] theorem taken_netOut : s.taken.netOut = s.netOut := rfl
@[simp] theorem taken_draws : s.taken.draws = s.draws := rfl
@[simp] theorem taken_powerUps : s.taken.powerUps = s.powerUps := rfl
@[simp] theorem taken_params : s.taken.params = s.params := rfl
@[simp] theorem taken_sock (m : SockId) : s.taken.sock m = s.sock m := rfl
@[simp] theorem taken_bufByte (c : Nat) : s.taken.bufByte c = s.bufByte c := rfl

/-! ### withNext -/

@[simp] theorem withNext_mr (t : Transaction) : (s.withNext t).mr = s.mr := rfl
@[simp] theorem withNext_idmAr (t : Transaction) : (s.withNext t).idmAr = s.idmAr := rfl
@[simp] theorem withNext_gwr (t : Transaction) : (s.withNext t).gwr = s.gwr := rfl
@[simp] theorem withNext_subr (t : Transaction) : (s.withNext t).subr = s.subr := rfl
@[simp] theorem withNext_shar (t : Transaction) : (s.withNext t).shar = s.shar := rfl
@[simp] theorem withNext_sipr (t : Transaction) : (s.withNext t).sipr = s.sipr := rfl
@[simp] theorem withNext_imr (t : Transaction) : (s.withNext t).imr = s.imr := rfl
@[simp] theorem withNext_rmsr (t : Transaction) : (s.withNext t).rmsr = s.rmsr := rfl
@[simp] theorem withNext_tmsr (t : Transaction) : (s.withNext t).tmsr = s.tmsr := rfl
@[simp] theorem withNext_fault (t : Transaction) : (s.withNext t).fault = s.fault := rfl
@[simp] theorem withNext_socks (t : Transaction) : (s.withNext t).socks = s.socks := rfl
@[simp] theorem withNext_mem (t : Transaction) : (s.withNext t).mem = s.mem := rfl
@[simp] theorem withNext_busRdata (t : Transaction) : (s.withNext t).busRdata = s.busRdata := rfl
@[simp] theorem withNext_busIn (t : Transaction) : (s.withNext t).busIn = t :: s.busIn := rfl
@[simp] theorem withNext_netIn (t : Transaction) : (s.withNext t).netIn = s.netIn := rfl
@[simp] theorem withNext_netOut (t : Transaction) : (s.withNext t).netOut = s.netOut := rfl
@[simp] theorem withNext_draws (t : Transaction) : (s.withNext t).draws = s.draws := rfl
@[simp] theorem withNext_powerUps (t : Transaction) : (s.withNext t).powerUps = s.powerUps := rfl
@[simp] theorem withNext_params (t : Transaction) : (s.withNext t).params = s.params := rfl
@[simp] theorem withNext_sock (t : Transaction) (m : SockId) : (s.withNext t).sock m = s.sock m := rfl
@[simp] theorem withNext_bufByte (t : Transaction) (c : Nat) : (s.withNext t).bufByte c = s.bufByte c := rfl

/-! ### supply -/

@[simp] theorem supply_mr (bus : List Transaction) (net : List NetAnswer) : (s.supply bus net).mr = s.mr := rfl
@[simp] theorem supply_idmAr (bus : List Transaction) (net : List NetAnswer) : (s.supply bus net).idmAr = s.idmAr := rfl
@[simp] theorem supply_gwr (bus : List Transaction) (net : List NetAnswer) : (s.supply bus net).gwr = s.gwr := rfl
@[simp] theorem supply_subr (bus : List Transaction) (net : List NetAnswer) : (s.supply bus net).subr = s.subr := rfl
@[simp] theorem supply_shar (bus : List Transaction) (net : List NetAnswer) : (s.supply bus net).shar = s.shar := rfl
@[simp] theorem supply_sipr (bus : List Transaction) (net : List NetAnswer) : (s.supply bus net).sipr = s.sipr := rfl
@[simp] theorem supply_imr (bus : List Transaction) (net : List NetAnswer) : (s.supply bus net).imr = s.imr := rfl
@[simp] theorem supply_rmsr (bus : List Transaction) (net : List NetAnswer) : (s.supply bus net).rmsr = s.rmsr := rfl
@[simp] theorem supply_tmsr (bus : List Transaction) (net : List NetAnswer) : (s.supply bus net).tmsr = s.tmsr := rfl
@[simp] theorem supply_fault (bus : List Transaction) (net : List NetAnswer) : (s.supply bus net).fault = s.fault := rfl
@[simp] theorem supply_socks (bus : List Transaction) (net : List NetAnswer) : (s.supply bus net).socks = s.socks := rfl
@[simp] theorem supply_mem (bus : List Transaction) (net : List NetAnswer) : (s.supply bus net).mem = s.mem := rfl
@[simp] theorem supply_busRdata (bus : List Transaction) (net : List NetAnswer) : (s.supply bus net).busRdata = s.busRdata := rfl
@[simp] theorem supply_busIn (bus : List Transaction) (net : List NetAnswer) : (s.supply bus net).busIn = bus := rfl
@[simp] theorem supply_netIn (bus : List Transaction) (net : List NetAnswer) : (s.supply bus net).netIn = net := rfl
@[simp] theorem supply_netOut (bus : List Transaction) (net : List NetAnswer) : (s.supply bus net).netOut = s.netOut := rfl
@[simp] theorem supply_draws (bus : List Transaction) (net : List NetAnswer) : (s.supply bus net).draws = s.draws := rfl
@[simp] theorem supply_powerUps (bus : List Transaction) (net : List NetAnswer) : (s.supply bus net).powerUps = s.powerUps := rfl
@[simp] theorem supply_params (bus : List Transaction) (net : List NetAnswer) : (s.supply bus net).params = s.params := rfl
@[simp] theorem supply_sock (bus : List Transaction) (net : List NetAnswer) (m : SockId) : (s.supply bus net).sock m = s.sock m := rfl
@[simp] theorem supply_bufByte (bus : List Transaction) (net : List NetAnswer) (c : Nat) : (s.supply bus net).bufByte c = s.bufByte c := rfl

/-! ### drawUnmapped -/

@[simp] theorem drawUnmapped_mr (a : Word) : (drawUnmapped a s).mr = s.mr := rfl
@[simp] theorem drawUnmapped_idmAr (a : Word) : (drawUnmapped a s).idmAr = s.idmAr := rfl
@[simp] theorem drawUnmapped_gwr (a : Word) : (drawUnmapped a s).gwr = s.gwr := rfl
@[simp] theorem drawUnmapped_subr (a : Word) : (drawUnmapped a s).subr = s.subr := rfl
@[simp] theorem drawUnmapped_shar (a : Word) : (drawUnmapped a s).shar = s.shar := rfl
@[simp] theorem drawUnmapped_sipr (a : Word) : (drawUnmapped a s).sipr = s.sipr := rfl
@[simp] theorem drawUnmapped_imr (a : Word) : (drawUnmapped a s).imr = s.imr := rfl
@[simp] theorem drawUnmapped_rmsr (a : Word) : (drawUnmapped a s).rmsr = s.rmsr := rfl
@[simp] theorem drawUnmapped_tmsr (a : Word) : (drawUnmapped a s).tmsr = s.tmsr := rfl
@[simp] theorem drawUnmapped_fault (a : Word) : (drawUnmapped a s).fault = s.fault := rfl
@[simp] theorem drawUnmapped_socks (a : Word) : (drawUnmapped a s).socks = s.socks := rfl
@[simp] theorem drawUnmapped_mem (a : Word) : (drawUnmapped a s).mem = s.mem := rfl
@[simp] theorem drawUnmapped_busRdata (a : Word) : (drawUnmapped a s).busRdata = some (Config.unmappedRead s.draws a) := rfl
@[simp] theorem drawUnmapped_busIn (a : Word) : (drawUnmapped a s).busIn = s.busIn := rfl
@[simp] theorem drawUnmapped_netIn (a : Word) : (drawUnmapped a s).netIn = s.netIn := rfl
@[simp] theorem drawUnmapped_netOut (a : Word) : (drawUnmapped a s).netOut = s.netOut := rfl
@[simp] theorem drawUnmapped_draws (a : Word) : (drawUnmapped a s).draws = s.draws + 1 := rfl
@[simp] theorem drawUnmapped_powerUps (a : Word) : (drawUnmapped a s).powerUps = s.powerUps := rfl
@[simp] theorem drawUnmapped_params (a : Word) : (drawUnmapped a s).params = s.params := rfl
@[simp] theorem drawUnmapped_sock (a : Word) (m : SockId) : (drawUnmapped a s).sock m = s.sock m := rfl
@[simp] theorem drawUnmapped_bufByte (a : Word) (c : Nat) : (drawUnmapped a s).bufByte c = s.bufByte c := rfl

end Machine

end Sys2Proof
end

