-- ==== Sys2Proof/Laws/Ops.lean ====
section
/-! SUPPORT. One lemma per shared operation that says once what it can do; the proofs about meanings cite these. -/

namespace Sys2Proof.Machine

/-! ### Buffer memory -/

@[simp] theorem memGet_memSet_same (m : Memory) (a : Nat) (v : Byte) : memGet (memSet m a v) a = some v := by
  induction m with
  | nil => simp [memSet, memGet]
  | cons c rest ih =>
    simp only [memSet]
    split
    · simp [memGet]
    · split
      · simp [memGet]
      · simp_all [memGet]

theorem memGet_memSet_other (m : Memory) (a b : Nat) (v : Byte) (h : b ≠ a) :
    memGet (memSet m a v) b = memGet m b := by
  induction m with
  | nil => simp [memSet, memGet, h.symm]
  | cons c rest ih =>
    simp only [memSet]
    split
    · next hc => subst hc; simp [memGet, h.symm]
    · split
      · simp [memGet, h.symm]
      · simp [memGet, ih]

theorem memRising_memSet (m : Memory) (lo a : Nat) (v : Byte) (hlo : lo ≤ a) (hhi : a < bufHi)
    (h : memRising lo m = true) : memRising lo (memSet m a v) = true := by
  induction m generalizing lo with
  | nil => simp [memSet, memRising, hlo, hhi]
  | cons c rest ih =>
    simp only [memRising, Bool.and_eq_true, decide_eq_true_eq] at h
    obtain ⟨⟨h1, h2⟩, h3⟩ := h
    simp only [memSet]
    split
    · next hc => subst hc; simp [memRising, h1, h2, h3]
    · split
      · next hlt =>
        simp only [memRising, Bool.and_eq_true, decide_eq_true_eq]
        exact ⟨⟨hlo, hhi⟩, ⟨by omega, h2⟩, h3⟩
      · next hne hlt =>
        simp only [memRising, Bool.and_eq_true, decide_eq_true_eq]
        exact ⟨⟨h1, h2⟩, ih (c.1 + 1) (by omega) h3⟩

/-- Every memory operation keeps the canonical form: a store inside the buffers does. -/
theorem setBuf_wf (s : State) (a : Nat) (v : Byte) (hlo : bufLo ≤ a) (hhi : a < bufHi)
    (h : Memory.wf s.mem = true) : Memory.wf (s.setBuf a v).mem = true :=
  memRising_memSet s.mem bufLo a v hlo hhi h

theorem reset_memory_wf : Memory.wf State.reset.mem = true := rfl

@[simp] theorem bufByte_setBuf_same (s : State) (a : Nat) (v : Byte) : (s.setBuf a v).bufByte a = v := by
  simp [State.bufByte]

theorem bufByte_setBuf_other (s : State) (a b : Nat) (v : Byte) (h : b ≠ a) :
    (s.setBuf a v).bufByte b = s.bufByte b := by
  simp [State.bufByte, memGet_memSet_other _ _ _ _ h]

/-! ### Buffer addresses -/

theorem ringOff_lt (p : Word) : ringOff p < bufSize := Nat.mod_lt _ (by decide)

theorem txCell_range (n : SockId) (o : Nat) (h : o < bufSize) : bufLo ≤ txCell n o ∧ txCell n o < 0x6000 := by
  have hn := n.isLt
  simp only [txCell, bufLo, bufSize] at *
  omega

theorem rxCell_range (n : SockId) (o : Nat) (h : o < bufSize) : 0x6000 ≤ rxCell n o ∧ rxCell n o < bufHi := by
  have hn := n.isLt
  simp only [rxCell, bufHi, bufSize] at *
  omega

theorem txCell_inj (n m : SockId) (o p : Nat) (ho : o < bufSize) (hp : p < bufSize) (h : txCell n o = txCell m p) :
    n = m ∧ o = p := by
  simp only [txCell, bufSize] at *
  exact ⟨Fin.ext (by omega), by omega⟩

theorem rxCell_inj (n m : SockId) (o p : Nat) (ho : o < bufSize) (hp : p < bufSize) (h : rxCell n o = rxCell m p) :
    n = m ∧ o = p := by
  simp only [rxCell, bufSize] at *
  exact ⟨Fin.ext (by omega), by omega⟩

theorem txCell_ne_rxCell (n m : SockId) (o p : Nat) (ho : o < bufSize) : txCell n o ≠ rxCell m p := by
  have hn := n.isLt
  simp only [txCell, rxCell, bufSize] at *
  omega

/-! ### Halves of a 16-bit register -/

@[simp] theorem hiByte_pairWord (hi lo : Byte) : hiByte (pairWord hi lo) = hi := by
  apply BitVec.eq_of_toNat_eq
  simp only [hiByte, pairWord, BitVec.extractLsb'_toNat, BitVec.toNat_append, Nat.shiftRight_eq_div_pow]
  have := lo.isLt; have := hi.isLt
  rw [Nat.shiftLeft_eq, Nat.mul_comm, ← Nat.two_pow_add_eq_or_of_lt lo.isLt]
  omega

@[simp] theorem loByte_pairWord (hi lo : Byte) : loByte (pairWord hi lo) = lo := by
  apply BitVec.eq_of_toNat_eq
  simp only [loByte, pairWord, BitVec.extractLsb'_toNat, BitVec.toNat_append, Nat.shiftRight_zero]
  have := lo.isLt; have := hi.isLt
  rw [Nat.shiftLeft_eq, Nat.mul_comm, ← Nat.two_pow_add_eq_or_of_lt lo.isLt]
  omega

theorem toNat_halves (w : Word) : w.toNat = (hiByte w).toNat * 256 + (loByte w).toNat := by
  have := w.isLt
  simp only [hiByte, loByte, BitVec.extractLsb'_toNat, Nat.shiftRight_eq_div_pow]
  omega

@[simp] theorem pairWord_halves (w : Word) : pairWord (hiByte w) (loByte w) = w := by
  apply BitVec.eq_of_toNat_eq
  rw [toNat_halves w, pairWord, BitVec.toNat_append, Nat.shiftLeft_eq, Nat.mul_comm,
    ← Nat.two_pow_add_eq_or_of_lt (loByte w).isLt]

@[simp] theorem hiByte_withHi (w : Word) (v : Byte) : hiByte (withHi w v) = v := by simp [withHi]
@[simp] theorem loByte_withHi (w : Word) (v : Byte) : loByte (withHi w v) = loByte w := by simp [withHi]
@[simp] theorem hiByte_withLo (w : Word) (v : Byte) : hiByte (withLo w v) = hiByte w := by simp [withLo]
@[simp] theorem loByte_withLo (w : Word) (v : Byte) : loByte (withLo w v) = v := by simp [withLo]

/-! ### Requests and answers (R12) -/

theorem rawAnswer_cons (s : State) (q : NetRequest) (a : NetAnswer) (rest : List NetAnswer)
    (h : s.netIn = a :: rest) : s.rawAnswer q = a := by
  simp [State.rawAnswer, h]

theorem rawAnswer_nil (s : State) (q : NetRequest) (h : s.netIn = []) :
    s.rawAnswer q = Config.netAnswer s.netOut q := by
  simp [State.rawAnswer, h]

/-- `NetReady`: `r ⇒ wantR`, `w ⇒ wantW`. -/
theorem answerReady_wanted (wantR wantW : Bool) (a : NetAnswer) :
    ((answerReady wantR wantW a).1 = true → wantR = true) ∧ ((answerReady wantR wantW a).2 = true → wantW = true) := by
  cases a <;> simp [answerReady]

/-- A token is open exactly when some socket holds it. -/
theorem tokenOpen_iff (s : State) (f : Fd) : s.tokenOpen f = true ↔ ∃ n, (s.sock n).fd = some f := by
  simp only [State.tokenOpen, Bool.or_eq_true, beq_iff_eq, sock_e0, sock_e1, sock_e2, sock_e3]
  constructor
  · rintro (((h | h) | h) | h)
    · exact ⟨0, h⟩
    · exact ⟨1, h⟩
    · exact ⟨2, h⟩
    · exact ⟨3, h⟩
  · rintro ⟨n, h⟩
    match n with
    | 0 => exact .inl (.inl (.inl h))
    | 1 => exact .inl (.inl (.inr h))
    | 2 => exact .inl (.inr h)
    | 3 => exact .inr h

/-- `NetSocket`: a successful answer draws a token that no socket holds. -/
theorem answerSocket_some (s : State) (a : NetAnswer) (f : Fd) :
    answerSocket s a = some f ↔ a = .okFd f ∧ ∀ n, (s.sock n).fd ≠ some f := by
  have h := tokenOpen_iff s f
  cases a with
  | okFd g =>
    simp only [answerSocket]
    split
    · next ho => exact ⟨nofun, fun ⟨e, hn⟩ => by cases e; exact absurd (h.mp ho) fun ⟨n, hf⟩ => hn n hf⟩
    · next ho =>
      simp only [Option.some.injEq, NetAnswer.okFd.injEq]
      exact ⟨fun e => ⟨e, fun n hf => by subst e; exact ho (h.mpr ⟨n, hf⟩)⟩, And.left⟩
  | ok | inProgress | fail | err | ready | accepted | data | eof | dgram | sent => simp [answerSocket]

/-- `NetAccept`: a successful answer draws a token that no socket holds. -/
theorem answerAccept_some (s : State) (a : NetAnswer) (f : Fd) (ip : Ip4) (port : Word) :
    answerAccept s a = some (f, ip, port) ↔ a = .accepted f ip port ∧ ∀ n, (s.sock n).fd ≠ some f := by
  have h := tokenOpen_iff s f
  cases a with
  | accepted g jp q =>
    simp only [answerAccept]
    split
    · next ho => exact ⟨nofun, fun ⟨e, hn⟩ => by cases e; exact absurd (h.mp ho) fun ⟨n, hf⟩ => hn n hf⟩
    · next ho =>
      simp only [Option.some.injEq, Prod.mk.injEq, NetAnswer.accepted.injEq]
      exact ⟨fun e => ⟨e, fun n hf => by cases e.1; exact ho (h.mpr ⟨n, hf⟩)⟩, And.left⟩
  | ok | okFd | inProgress | fail | err | ready | data | eof | dgram | sent => simp [answerAccept]

/-- `NetRecv`: `Data(b)` has 1 ≤ len(b) ≤ max. -/
theorem answerRecv_data (max : Nat) (a : NetAnswer) (b : List Byte) (h : answerRecv max a = .data b) :
    1 ≤ b.length ∧ b.length ≤ max := by
  cases a with
  | data c =>
    simp only [answerRecv] at h
    split at h
    · cases h
    · next hne =>
      cases h
      refine ⟨?_, by simp [List.length_take]⟩
      cases ht : c.take max with
      | nil => simp [ht] at hne
      | cons x xs => simp
  | ok | okFd | inProgress | fail | err | ready | accepted | eof | dgram | sent => simp [answerRecv] at h

/-- `NetRecvFrom`: the payload has len(b) ≤ max. -/
theorem answerRecvFrom_length (max : Nat) (a : NetAnswer) (d : Datagram) (h : answerRecvFrom max a = some d) :
    d.payload.length ≤ max := by
  cases a with
  | dgram b ip port =>
    simp only [answerRecvFrom, Option.some.injEq] at h
    subst h
    simp [List.length_take]
  | ok | okFd | inProgress | fail | err | ready | accepted | eof | data | sent => simp [answerRecvFrom] at h

/-- `NetSend`, `NetSendTo`: `Sent(k)` has k ≤ the length offered. -/
theorem answerSent_le (len : Nat) (a : NetAnswer) (k : Nat) (h : answerSent len a = some k) : k ≤ len := by
  cases a with
  | sent j =>
    simp only [answerSent, Option.some.injEq] at h
    omega
  | ok | okFd | inProgress | fail | err | ready | accepted | eof | data | dgram => simp [answerSent] at h

/-- Closing changes the request record and nothing else. -/
theorem closeFd_eq (s : State) (fd : Option Fd) : ∃ out, s.closeFd fd = { s with netOut := out } := by
  cases fd with
  | none => exact ⟨s.netOut, rfl⟩
  | some f => exact ⟨.close f :: s.netOut, rfl⟩

@[simp] theorem closeFd_sock (s : State) (fd : Option Fd) (n : SockId) : (s.closeFd fd).sock n = s.sock n := by
  cases fd <;> rfl

/-! ### The model fault (R286) -/

/-- Raising keeps an earlier fault and changes nothing but the flag. -/
theorem raiseFault_eq (k : FaultKind) (s : State) :
    raiseFault k s = { s with fault := some (s.fault.getD k) } := by
  cases s with
  | mk mr idmAr gwr subr shar sipr imr rmsr tmsr fault =>
    cases fault <;> rfl

theorem raiseFault_fault (k : FaultKind) (s : State) : (raiseFault k s).fault = some (s.fault.getD k) := by
  rw [raiseFault_eq]

@[simp] theorem raiseFault_sock (k : FaultKind) (s : State) (n : SockId) : (raiseFault k s).sock n = s.sock n := by
  rw [raiseFault_eq]; rfl

/-! ### Release, disconnect and bind (R166, R167, R190) -/

/-- `Release` changes the request record and the released socket only. -/
theorem release_eq (n : SockId) (s : State) :
    ∃ out, release n s = { s with netOut := out, socks := s.socks.set n (s.sock n).released } := by
  obtain ⟨out, h⟩ := closeFd_eq s (s.sock n).fd
  exact ⟨out, by rw [release, h]; rfl⟩

theorem release_netOut (n : SockId) (s : State) : (release n s).netOut = (s.closeFd (s.sock n).fd).netOut := rfl

@[simp] theorem release_sock_same (n : SockId) (s : State) : (release n s).sock n = (s.sock n).released := by
  simp [release]

theorem release_sock_other (n m : SockId) (s : State) (h : m ≠ n) : (release n s).sock m = s.sock m := by
  simp [release, sock_setSock_other _ _ _ _ h]

/-- A disconnect changes the request record and the socket only, which is released with DISCON set. -/
theorem disconnect_eq (n : SockId) (s : State) :
    ∃ out, disconnect n s =
      { s with netOut := out, socks := s.socks.set n ((s.sock n).raise .discon).released } := by
  obtain ⟨out, h⟩ := release_eq n (s.raiseIr n .discon)
  exact ⟨out, by rw [disconnect, h]; simp [State.raiseIr, State.setSock, State.sock]⟩

/-- What the bind procedure can do: nothing for a bound socket; else one request, after which the socket is bound,
or disconnected. -/
theorem tryBind_cases (n : SockId) (s : State) :
    ((s.sock n).bound = true ∧ bindOk n s = true ∧ tryBind n s = s) ∨
    ((s.sock n).bound = false ∧ answerOk (s.rawAnswer (bindRequest n s)) = true ∧ bindOk n s = true ∧
      tryBind n s = (s.asked (bindRequest n s)).setSock n { (s.sock n) with bound := true }) ∨
    ((s.sock n).bound = false ∧ answerOk (s.rawAnswer (bindRequest n s)) = false ∧ bindOk n s = false ∧
      tryBind n s = disconnect n (s.asked (bindRequest n s))) := by
  unfold tryBind bindOk
  cases (s.sock n).bound <;> cases answerOk (s.rawAnswer (bindRequest n s)) <;> simp

/-! ### Ring buffers (R211 to R220) -/

theorem txFree_le (k : Socket) : txFree k ≤ bufSize := by
  unfold txFree
  split <;> omega

/-- R213: the free space is 2048 less the used count, clamped at 0. -/
theorem txFree_eq (k : Socket) : txFree k = bufSize - txUsed k := by
  unfold txFree
  split
  · rfl
  · omega

theorem tcpChunk_le (k : Socket) : tcpChunk k ≤ bufSize := by
  unfold tcpChunk
  omega

@[simp] theorem txBytes_length (s : State) (n : SockId) (o len : Nat) : (txBytes s n o len).length = len := by
  induction len generalizing o with
  | zero => rfl
  | succ k ih => simp [txBytes, ih]

/-- R214: the `i`-th byte a flush sends. -/
theorem txBytes_getElem (s : State) (n : SockId) (o len i : Nat) (h : i < len) :
    (txBytes s n o len)[i]? = some (s.bufByte (txCell n ((o + i) % bufSize))) := by
  induction len generalizing o i with
  | zero => omega
  | succ k ih =>
    cases i with
    | zero => simp [txBytes]
    | succ j =>
      have := ih (o + 1) j (by omega)
      simpa [txBytes, Nat.add_assoc, Nat.add_comm 1 j] using this

/-- The copy loop of a fill changes buffer memory only. -/
theorem rxWrite_eq (n : SockId) (o : Nat) (b : List Byte) (s : State) :
    ∃ m, rxWrite n o b s = { s with mem := m } := by
  induction b generalizing o s with
  | nil => exact ⟨s.mem, rfl⟩
  | cons v rest ih =>
    obtain ⟨m, h⟩ := ih (o + 1) (s.setBuf (rxCell n (o % bufSize)) v)
    exact ⟨m, by rw [rxWrite, h]; rfl⟩

@[simp] theorem rxWrite_sock (n m : SockId) (o : Nat) (b : List Byte) (s : State) :
    (rxWrite n o b s).sock m = s.sock m := by
  obtain ⟨k, h⟩ := rxWrite_eq n o b s
  rw [h]; rfl

/-- A fill leaves every byte outside the ring positions it writes. -/
theorem rxWrite_bufByte_other (n : SockId) (o : Nat) (b : List Byte) (s : State) (c : Nat)
    (h : ∀ i, i < b.length → c ≠ rxCell n ((o + i) % bufSize)) : (rxWrite n o b s).bufByte c = s.bufByte c := by
  induction b generalizing o s with
  | nil => rfl
  | cons v rest ih =>
    rw [rxWrite, ih (o + 1) _ (fun i hi => ?_), bufByte_setBuf_other]
    · simpa using h 0 (by simp)
    · simpa [Nat.add_assoc, Nat.add_comm 1 i] using h (i + 1) (by simpa using hi)

/-- A fill that fits the ring stores its `i`-th byte at the `i`-th ring position. -/
theorem rxWrite_bufByte_at (n : SockId) (o : Nat) (b : List Byte) (s : State) (hfit : b.length ≤ bufSize)
    (i : Nat) (hi : i < b.length) : (rxWrite n o b s).bufByte (rxCell n ((o + i) % bufSize)) = b[i] := by
  induction b generalizing o s i with
  | nil => exact absurd hi (by simp)
  | cons v rest ih =>
    simp only [List.length_cons] at hfit hi
    cases i with
    | zero =>
      rw [rxWrite, rxWrite_bufByte_other]
      · simp
      · intro j hj heq
        have := (rxCell_inj n n _ _ (Nat.mod_lt _ (by decide)) (Nat.mod_lt _ (by decide)) heq).2
        simp only [bufSize] at *
        omega
    | succ j =>
      have := ih (o + 1) (s.setBuf (rxCell n (o % bufSize)) v) (by omega) j (by omega)
      simpa [rxWrite, Nat.add_assoc, Nat.add_comm 1 j] using this

/-- A fill keeps the memory canonical. -/
theorem rxWrite_wf (n : SockId) (o : Nat) (b : List Byte) (s : State) (h : Memory.wf s.mem = true) :
    Memory.wf (rxWrite n o b s).mem = true := by
  induction b generalizing o s with
  | nil => exact h
  | cons v rest ih =>
    have hr := rxCell_range n (o % bufSize) (Nat.mod_lt _ (by decide))
    exact ih (o + 1) _ (setBuf_wf s _ v (by simp only [bufLo]; omega) hr.2 h)

/-- `RxAppend` adds its length to `rxAvail` and changes no other field of any socket. -/
theorem rxAppend_sock_same (n : SockId) (b : List Byte) (s : State) :
    (rxAppend n b s).sock n = { (s.sock n) with rxAvail := (s.sock n).rxAvail + b.length } := by
  simp [rxAppend]

theorem rxAppend_sock_other (n m : SockId) (b : List Byte) (s : State) (h : m ≠ n) :
    (rxAppend n b s).sock m = s.sock m := by
  simp [rxAppend, sock_setSock_other _ _ _ _ h]

theorem rxAppend_bufByte (n : SockId) (b : List Byte) (s : State) (c : Nat) :
    (rxAppend n b s).bufByte c = (rxWrite n (rxPos (s.sock n)) b s).bufByte c := by
  simp [rxAppend]

/-! ### The terms of the claims -/

/-- R214: what a flush sends is what the TX ring holds from its read pointer on. -/
theorem txBytes_txHolds (s : State) (n : SockId) (len : Nat) :
    s.txHolds n len (txBytes s n (ringOff (s.sock n).txRR) len) :=
  ⟨txBytes_length s n _ len, fun i hi => by
    rw [txBytes_getElem s n _ len i hi, ringOff, Nat.mod_add_mod]; rfl⟩

/-- R219, R220: a fill that fits the ring stores its bytes behind the data held, and nothing else. -/
theorem rxWrite_rxStored (s : State) (n : SockId) (b : List Byte) (hfit : b.length ≤ bufSize) :
    s.rxStored n b (rxWrite n (rxPos (s.sock n)) b s).mem := by
  have hm : ({ s with mem := (rxWrite n (rxPos (s.sock n)) b s).mem } : State) = rxWrite n (rxPos (s.sock n)) b s := by
    obtain ⟨m, h⟩ := rxWrite_eq n (rxPos (s.sock n)) b s
    rw [h]
  have hp : ∀ i, rxCell n ((rxPos (s.sock n) + i) % bufSize) =
      0x6000 + n.val * 0x800 + ((s.sock n).oldRxRD.toNat + (s.sock n).rxAvail + i) % 2048 := fun i => by
    rw [rxPos, Nat.mod_add_mod]; rfl
  unfold State.rxStored
  rw [hm]
  constructor
  · intro i hi
    rw [← hp, rxWrite_bufByte_at n _ b s hfit i hi, List.getElem?_eq_getElem hi]
  · intro a ha
    exact rxWrite_bufByte_other n _ b s a (fun i hi => by rw [hp]; exact ha i hi)

/-- R222: what a receive appends is the datagram's image. -/
theorem dgramBytes_eq (d : Datagram) : dgramBytes d = dgramImage d.payload d.srcIp d.srcPort := by
  have hi : ∀ w : Word, hiByte w = BitVec.ofNat 8 (w.toNat / 256) := fun w => by
    apply BitVec.eq_of_toNat_eq
    simp [hiByte, BitVec.extractLsb'_toNat, Nat.shiftRight_eq_div_pow]
  have lo : ∀ w : Word, loByte w = BitVec.ofNat 8 (w.toNat % 256) := fun w => by
    apply BitVec.eq_of_toNat_eq
    simp [loByte, BitVec.extractLsb'_toNat]
  have h1 : BitVec.ofNat 8 (d.payload.length % 65536 / 256) = BitVec.ofNat 8 (d.payload.length / 256) := by
    apply BitVec.eq_of_toNat_eq
    simp only [BitVec.toNat_ofNat]
    omega
  have h2 : BitVec.ofNat 8 (d.payload.length % 65536 % 256) = BitVec.ofNat 8 (d.payload.length % 256) := by
    apply BitVec.eq_of_toNat_eq
    simp only [BitVec.toNat_ofNat]
    omega
  simp only [dgramBytes, dgramImage, pseudoHeader, hi, lo, BitVec.toNat_ofNat, Nat.reducePow, h1, h2]

/-! ### Closing, draws, the auto-increment, the marks of a tick -/

/-- Closing issues one request, or none when there is no descriptor; nothing else changes. -/
theorem closeFd_closing (s : State) (fd : Option Fd) : s.closeFd fd = { s with netOut := closing fd ++ s.netOut } := by
  cases fd <;> rfl

theorem drawUnmapped_eq (a : Word) (s : State) :
    drawUnmapped a s = { s with busRdata := some (Config.unmappedRead s.draws a), draws := s.draws + 1 } := rfl

theorem autoInc_eq (ai ended : Bool) (s : State) :
    autoInc ai ended s = { s with idmAr := if ai && !ended then s.idmAr + 1#16 else s.idmAr } := by
  cases ai <;> cases ended <;> rfl

theorem markLive_sock (s : State) (n : SockId) : (markLive s).sock n = (s.sock n).marked := by
  match n with
  | 0 | 1 | 2 | 3 => rfl

/-- The sockets of a tick have their turns in the order 0, 1, 2, 3 (R241). -/
theorem tickSockets_turns (s : State) : tickSockets s = turns [0, 1, 2, 3] s := by
  simp only [tickSockets, turns]
  cases tickSocket 0 s with
  | error t => rfl
  | ok t =>
    simp only [thenSocket]
    cases tickSocket 1 t with
    | error u => rfl
    | ok u =>
      simp only
      cases tickSocket 2 u with
      | error v => rfl
      | ok v =>
        simp only
        cases tickSocket 3 v <;> rfl

/-- What a tick does: the four sockets are served, or the model fault ends it (R286). -/
theorem tickAll_cases (s : State) :
    (∃ t, tickSockets (markLive s) = .ok t ∧ tickAll s = t) ∨
    (∃ t, tickSockets (markLive s) = .error t ∧ tickAll s = s.endedByFault t) := by
  unfold tickAll
  cases tickSockets (markLive s) with
  | ok t => exact .inl ⟨t, rfl, rfl⟩
  | error t => exact .inr ⟨t, rfl, rfl⟩

/-- A socket that is not live is passed over by the tick. -/
theorem tickSocket_dead (n : SockId) (s : State) (h : (s.sock n).tickLive = false) : tickSocket n s = .ok s := by
  simp [tickSocket, h]

/-! ### The step -/

theorem step_idle (s : State) (h : s.busIn = []) : step s = .next s := by
  simp [step, fetch, h]

theorem step_run (s : State) (t : Transaction) (rest : List Transaction) (i : Instr) (h : s.busIn = t :: rest)
    (hd : s.decodes t = .ok i) : step s = exec i s.taken := by
  simp [step, fetch, h, hd]

theorem step_bad (s : State) (t : Transaction) (rest : List Transaction) (e : DecodeError) (h : s.busIn = t :: rest)
    (hd : s.decodes t = .error e) : step s = .refused (.reservedWord e) := by
  simp [step, fetch, h, hd]

end Sys2Proof.Machine
end

