-- ==== Sys2Proof/Laws/Decode.lean ====
section
/-! SUPPORT. Laws of the decoder's fields, and that the internal decode level is closed: it yields internal accesses
only, and each of them answers a next state. -/

namespace Sys2Proof

theorem append_toNat {m n : Nat} (x : BitVec m) (y : BitVec n) : (x ++ y).toNat = x.toNat * 2 ^ n + y.toNat := by
  rw [BitVec.toNat_append, Nat.shiftLeft_eq, Nat.mul_comm, ← Nat.two_pow_add_eq_or_of_lt y.isLt]

/-! ### Halves of a register pair as numbers -/

section Halves

open Machine

theorem Machine.pairWord_toNat (hi lo : Byte) : (pairWord hi lo).toNat = hi.toNat * 256 + lo.toNat := by
  unfold pairWord; exact append_toNat hi lo

theorem Machine.hiByte_toNat (w : Word) : (hiByte w).toNat = w.toNat / 256 := by
  have := w.isLt
  simp [hiByte, BitVec.extractLsb'_toNat, Nat.shiftRight_eq_div_pow]
  omega

theorem Machine.loByte_toNat (w : Word) : (loByte w).toNat = w.toNat % 256 := by
  simp [loByte, BitVec.extractLsb'_toNat]

theorem Machine.withHi_toNat (w : Word) (v : Byte) : (withHi w v).toNat = v.toNat * 256 + w.toNat % 256 := by
  rw [withHi, pairWord_toNat, loByte_toNat]

theorem Machine.withLo_toNat (w : Word) (v : Byte) : (withLo w v).toNat = w.toNat / 256 * 256 + v.toNat := by
  rw [withLo, pairWord_toNat, hiByte_toNat]

end Halves

@[simp] theorem bits_toNat (n : SockId) : n.bits.toNat = n.val := rfl

theorem sockAddr_toNat (n : SockId) (off : BitVec 8) : (sockAddr n off).toNat = 0x400 + n.val * 0x100 + off.toNat := by
  have h : (sockAddr n off).toNat = (0x01#6 ++ (n.bits ++ off)).toNat := rfl
  rw [h, append_toNat, append_toNat, bits_toNat]
  simp only [BitVec.toNat_ofNat]
  omega

theorem txAddr_toNat (n : SockId) (o : BitVec 11) : (txAddr n o).toNat = 0x4000 + n.val * 0x800 + o.toNat := by
  have h : (txAddr n o).toNat = (0x2#3 ++ (n.bits ++ o)).toNat := rfl
  rw [h, append_toNat, append_toNat, bits_toNat]
  simp only [BitVec.toNat_ofNat]
  omega

theorem rxAddr_toNat (n : SockId) (o : BitVec 11) : (rxAddr n o).toNat = 0x6000 + n.val * 0x800 + o.toNat := by
  have h : (rxAddr n o).toNat = (0x3#3 ++ (n.bits ++ o)).toNat := rfl
  rw [h, append_toNat, append_toNat, bits_toNat]
  simp only [BitVec.toNat_ofNat]
  omega

theorem extract_toNat (a : Word) (start len : Nat) : (a.extractLsb' start len).toNat = a.toNat / 2 ^ start % 2 ^ len := by
  rw [BitVec.extractLsb'_toNat, Nat.shiftRight_eq_div_pow]

theorem sockOfReg_val (a : Word) : (sockOfReg a).val = a.toNat / 256 % 4 := by
  have : (sockOfReg a).val = (a.extractLsb' 8 2).toNat := rfl
  rw [this, extract_toNat]
  rfl

theorem sockOfBuf_val (a : Word) : (sockOfBuf a).val = a.toNat / 2048 % 4 := by
  have : (sockOfBuf a).val = (a.extractLsb' 11 2).toNat := rfl
  rw [this, extract_toNat]
  rfl

@[simp] theorem sockOfReg_sockAddr (n : SockId) (off : BitVec 8) : sockOfReg (sockAddr n off) = n := by
  have := n.isLt; have := off.isLt
  apply Fin.ext
  rw [sockOfReg_val, sockAddr_toNat]
  omega

@[simp] theorem regOffset_sockAddr (n : SockId) (off : BitVec 8) : regOffset (sockAddr n off) = off := by
  have := n.isLt; have := off.isLt
  apply BitVec.eq_of_toNat_eq
  rw [regOffset, extract_toNat, sockAddr_toNat]
  omega

@[simp] theorem sockOfBuf_txAddr (n : SockId) (o : BitVec 11) : sockOfBuf (txAddr n o) = n := by
  have := n.isLt; have := o.isLt
  apply Fin.ext
  rw [sockOfBuf_val, txAddr_toNat]
  omega

@[simp] theorem bufOffset_txAddr (n : SockId) (o : BitVec 11) : bufOffset (txAddr n o) = o := by
  have := n.isLt; have := o.isLt
  apply BitVec.eq_of_toNat_eq
  rw [bufOffset, extract_toNat, txAddr_toNat]
  omega

@[simp] theorem sockOfBuf_rxAddr (n : SockId) (o : BitVec 11) : sockOfBuf (rxAddr n o) = n := by
  have := n.isLt; have := o.isLt
  apply Fin.ext
  rw [sockOfBuf_val, rxAddr_toNat]
  omega

@[simp] theorem bufOffset_rxAddr (n : SockId) (o : BitVec 11) : bufOffset (rxAddr n o) = o := by
  have := n.isLt; have := o.isLt
  apply BitVec.eq_of_toNat_eq
  rw [bufOffset, extract_toNat, rxAddr_toNat]
  omega

/-! ### Word fields -/

theorem hostWord_toNat (op : BitVec 2) (addr : Word) (data : Byte) :
    (hostWord op addr data).toNat = op.toNat * 2 ^ 24 + addr.toNat * 2 ^ 8 + data.toNat := by
  have h : (hostWord op addr data).toNat = (0#6 ++ (op ++ (addr ++ data))).toNat := rfl
  rw [h, append_toNat, append_toNat, append_toNat]
  simp only [BitVec.toNat_ofNat]
  omega

theorem internalWord_toNat (we : Bool) (a : Word) (v : Byte) :
    (internalWord we a v).toNat = v.toNat * 2 ^ 24 + we.toNat * 2 ^ 16 + a.toNat := by
  have h : (internalWord we a v).toNat = (v ++ (0#7 ++ (BitVec.ofBool we ++ a))).toNat := rfl
  rw [h, append_toNat, append_toNat, append_toNat, BitVec.toNat_ofBool]
  simp only [BitVec.toNat_ofNat]
  omega

theorem hostWord_reserved (op : BitVec 2) (addr : Word) (data : Byte) :
    (hostWord op addr data).extractLsb' 26 6 = 0#6 := by
  apply BitVec.eq_of_toNat_eq
  have := op.isLt; have := addr.isLt; have := data.isLt
  rw [BitVec.extractLsb'_toNat, Nat.shiftRight_eq_div_pow, hostWord_toNat]
  simp only [BitVec.toNat_ofNat]
  omega

theorem internalWord_gap (we : Bool) (a : Word) (v : Byte) : (internalWord we a v).extractLsb' 17 7 = 0#7 := by
  apply BitVec.eq_of_toNat_eq
  have := a.isLt; have := v.isLt; have := we.toNat_lt
  rw [BitVec.extractLsb'_toNat, Nat.shiftRight_eq_div_pow, internalWord_toNat]
  simp only [BitVec.toNat_ofNat]
  omega

/-! ### The internal level is closed -/

theorem decodeCommand_level (n : SockId) (v : Byte) : (decodeCommand n v).level = .internal := by
  unfold decodeCommand
  split_ifs <;> rfl

theorem decodeGlobal_level (we : Bool) (a : Word) (v : Byte) : (decodeGlobal we a v).level = .internal := by
  unfold decodeGlobal
  split <;> (try split_ifs) <;> cases we <;> rfl

theorem decodeSocket_level (we : Bool) (n : SockId) (off : BitVec 8) (v : Byte) :
    (decodeSocket we n off v).level = .internal := by
  unfold decodeSocket
  split <;> (try split_ifs) <;> cases we <;> first | rfl | exact decodeCommand_level n v

theorem decodeUnmapped_level (we : Bool) (a : Word) (v : Byte) : (decodeUnmapped we a v).level = .internal := by
  unfold decodeUnmapped
  split_ifs <;> cases we <;> rfl

/-- R109 yields internal accesses only. -/
theorem decodeInternal_level (we : Bool) (a : Word) (v : Byte) : (decodeInternal we a v).level = .internal := by
  unfold decodeInternal
  split_ifs
  · exact decodeGlobal_level we a v
  · exact decodeSocket_level we _ _ v
  · cases we <;> rfl
  · cases we <;> rfl
  · exact decodeUnmapped_level we a v

namespace Machine

/-- No internal access is refused or faults (R76, R279). -/
theorem execInternal_next (i : Instr) (s : State) (h : i.level = .internal) : ∃ t, execInternal i s = .next t := by
  cases i <;> first | exact ⟨_, rfl⟩ | cases h

end Machine

end Sys2Proof
end

