-- ==== Sys2Proof/Laws/PerInstr.lean ====
section
/-! SUPPORT. The per-instruction family `ReservedBitsZero`: the encoding of an instruction sets no bit that its word
format leaves unused (spec/30_encoding.md R86, R108 f; log 10). One lemma per constructor of Instr. -/

namespace Sys2Proof.Laws

/-- The unused bits of a transaction word are zero: 31..26 of a host word, 23..17 of an internal word. -/
def ReservedBitsZero.Statement (i : Instr) : Prop :=
  match encode i with
  | .host w => w.extractLsb' 26 6 = 0#6
  | .internal w => w.extractLsb' 17 7 = 0#7

theorem ReservedBitsZero.hrdDirect (h : Word) : Statement (.hrdDirect h) := hostWord_reserved _ _ _
theorem ReservedBitsZero.hwrDirect (h : Word) (v : Byte) : Statement (.hwrDirect h v) := hostWord_reserved _ _ _
theorem ReservedBitsZero.hrdMrInd (hi : BitVec 14) : Statement (.hrdMrInd hi) := hostWord_reserved _ _ _
theorem ReservedBitsZero.hwrMrInd (hi : BitVec 14) (v : Byte) : Statement (.hwrMrInd hi v) := hostWord_reserved _ _ _
theorem ReservedBitsZero.hrdIdmAr0 (hi : BitVec 14) : Statement (.hrdIdmAr0 hi) := hostWord_reserved _ _ _
theorem ReservedBitsZero.hwrIdmAr0 (hi : BitVec 14) (v : Byte) : Statement (.hwrIdmAr0 hi v) := hostWord_reserved _ _ _
theorem ReservedBitsZero.hrdIdmAr1 (hi : BitVec 14) : Statement (.hrdIdmAr1 hi) := hostWord_reserved _ _ _
theorem ReservedBitsZero.hwrIdmAr1 (hi : BitVec 14) (v : Byte) : Statement (.hwrIdmAr1 hi v) := hostWord_reserved _ _ _
theorem ReservedBitsZero.hrdIdmDr (hi : BitVec 14) : Statement (.hrdIdmDr hi) := hostWord_reserved _ _ _
theorem ReservedBitsZero.hwrIdmDr (hi : BitVec 14) (v : Byte) : Statement (.hwrIdmDr hi v) := hostWord_reserved _ _ _
theorem ReservedBitsZero.rdMr : Statement .rdMr := internalWord_gap _ _ _
theorem ReservedBitsZero.wrMr (v : Byte) : Statement (.wrMr v) := internalWord_gap _ _ _
theorem ReservedBitsZero.rdGwr0 : Statement .rdGwr0 := internalWord_gap _ _ _
theorem ReservedBitsZero.wrGwr0 (v : Byte) : Statement (.wrGwr0 v) := internalWord_gap _ _ _
theorem ReservedBitsZero.rdGwr1 : Statement .rdGwr1 := internalWord_gap _ _ _
theorem ReservedBitsZero.wrGwr1 (v : Byte) : Statement (.wrGwr1 v) := internalWord_gap _ _ _
theorem ReservedBitsZero.rdGwr2 : Statement .rdGwr2 := internalWord_gap _ _ _
theorem ReservedBitsZero.wrGwr2 (v : Byte) : Statement (.wrGwr2 v) := internalWord_gap _ _ _
theorem ReservedBitsZero.rdGwr3 : Statement .rdGwr3 := internalWord_gap _ _ _
theorem ReservedBitsZero.wrGwr3 (v : Byte) : Statement (.wrGwr3 v) := internalWord_gap _ _ _
theorem ReservedBitsZero.rdSubr0 : Statement .rdSubr0 := internalWord_gap _ _ _
theorem ReservedBitsZero.wrSubr0 (v : Byte) : Statement (.wrSubr0 v) := internalWord_gap _ _ _
theorem ReservedBitsZero.rdSubr1 : Statement .rdSubr1 := internalWord_gap _ _ _
theorem ReservedBitsZero.wrSubr1 (v : Byte) : Statement (.wrSubr1 v) := internalWord_gap _ _ _
theorem ReservedBitsZero.rdSubr2 : Statement .rdSubr2 := internalWord_gap _ _ _
theorem ReservedBitsZero.wrSubr2 (v : Byte) : Statement (.wrSubr2 v) := internalWord_gap _ _ _
theorem ReservedBitsZero.rdSubr3 : Statement .rdSubr3 := internalWord_gap _ _ _
theorem ReservedBitsZero.wrSubr3 (v : Byte) : Statement (.wrSubr3 v) := internalWord_gap _ _ _
theorem ReservedBitsZero.rdShar0 : Statement .rdShar0 := internalWord_gap _ _ _
theorem ReservedBitsZero.wrShar0 (v : Byte) : Statement (.wrShar0 v) := internalWord_gap _ _ _
theorem ReservedBitsZero.rdShar1 : Statement .rdShar1 := internalWord_gap _ _ _
theorem ReservedBitsZero.wrShar1 (v : Byte) : Statement (.wrShar1 v) := internalWord_gap _ _ _
theorem ReservedBitsZero.rdShar2 : Statement .rdShar2 := internalWord_gap _ _ _
theorem ReservedBitsZero.wrShar2 (v : Byte) : Statement (.wrShar2 v) := internalWord_gap _ _ _
theorem ReservedBitsZero.rdShar3 : Statement .rdShar3 := internalWord_gap _ _ _
theorem ReservedBitsZero.wrShar3 (v : Byte) : Statement (.wrShar3 v) := internalWord_gap _ _ _
theorem ReservedBitsZero.rdShar4 : Statement .rdShar4 := internalWord_gap _ _ _
theorem ReservedBitsZero.wrShar4 (v : Byte) : Statement (.wrShar4 v) := internalWord_gap _ _ _
theorem ReservedBitsZero.rdShar5 : Statement .rdShar5 := internalWord_gap _ _ _
theorem ReservedBitsZero.wrShar5 (v : Byte) : Statement (.wrShar5 v) := internalWord_gap _ _ _
theorem ReservedBitsZero.rdSipr0 : Statement .rdSipr0 := internalWord_gap _ _ _
theorem ReservedBitsZero.wrSipr0 (v : Byte) : Statement (.wrSipr0 v) := internalWord_gap _ _ _
theorem ReservedBitsZero.rdSipr1 : Statement .rdSipr1 := internalWord_gap _ _ _
theorem ReservedBitsZero.wrSipr1 (v : Byte) : Statement (.wrSipr1 v) := internalWord_gap _ _ _
theorem ReservedBitsZero.rdSipr2 : Statement .rdSipr2 := internalWord_gap _ _ _
theorem ReservedBitsZero.wrSipr2 (v : Byte) : Statement (.wrSipr2 v) := internalWord_gap _ _ _
theorem ReservedBitsZero.rdSipr3 : Statement .rdSipr3 := internalWord_gap _ _ _
theorem ReservedBitsZero.wrSipr3 (v : Byte) : Statement (.wrSipr3 v) := internalWord_gap _ _ _
theorem ReservedBitsZero.rdIr : Statement .rdIr := internalWord_gap _ _ _
theorem ReservedBitsZero.wrIr (v : Byte) : Statement (.wrIr v) := internalWord_gap _ _ _
theorem ReservedBitsZero.rdImr : Statement .rdImr := internalWord_gap _ _ _
theorem ReservedBitsZero.wrImr (v : Byte) : Statement (.wrImr v) := internalWord_gap _ _ _
theorem ReservedBitsZero.rdRmsr : Statement .rdRmsr := internalWord_gap _ _ _
theorem ReservedBitsZero.wrRmsr (v : Byte) : Statement (.wrRmsr v) := internalWord_gap _ _ _
theorem ReservedBitsZero.rdTmsr : Statement .rdTmsr := internalWord_gap _ _ _
theorem ReservedBitsZero.wrTmsr (v : Byte) : Statement (.wrTmsr v) := internalWord_gap _ _ _
theorem ReservedBitsZero.rdSnMr (n : SockId) : Statement (.rdSnMr n) := internalWord_gap _ _ _
theorem ReservedBitsZero.wrSnMr (n : SockId) (v : Byte) : Statement (.wrSnMr n v) := internalWord_gap _ _ _
theorem ReservedBitsZero.rdSnCr (n : SockId) : Statement (.rdSnCr n) := internalWord_gap _ _ _
theorem ReservedBitsZero.rdSnIr (n : SockId) : Statement (.rdSnIr n) := internalWord_gap _ _ _
theorem ReservedBitsZero.wrSnIr (n : SockId) (v : Byte) : Statement (.wrSnIr n v) := internalWord_gap _ _ _
theorem ReservedBitsZero.rdSnSr (n : SockId) : Statement (.rdSnSr n) := internalWord_gap _ _ _
theorem ReservedBitsZero.wrSnSr (n : SockId) (v : Byte) : Statement (.wrSnSr n v) := internalWord_gap _ _ _
theorem ReservedBitsZero.rdSnPort0 (n : SockId) : Statement (.rdSnPort0 n) := internalWord_gap _ _ _
theorem ReservedBitsZero.wrSnPort0 (n : SockId) (v : Byte) : Statement (.wrSnPort0 n v) := internalWord_gap _ _ _
theorem ReservedBitsZero.rdSnPort1 (n : SockId) : Statement (.rdSnPort1 n) := internalWord_gap _ _ _
theorem ReservedBitsZero.wrSnPort1 (n : SockId) (v : Byte) : Statement (.wrSnPort1 n v) := internalWord_gap _ _ _
theorem ReservedBitsZero.rdSnDipr0 (n : SockId) : Statement (.rdSnDipr0 n) := internalWord_gap _ _ _
theorem ReservedBitsZero.wrSnDipr0 (n : SockId) (v : Byte) : Statement (.wrSnDipr0 n v) := internalWord_gap _ _ _
theorem ReservedBitsZero.rdSnDipr1 (n : SockId) : Statement (.rdSnDipr1 n) := internalWord_gap _ _ _
theorem ReservedBitsZero.wrSnDipr1 (n : SockId) (v : Byte) : Statement (.wrSnDipr1 n v) := internalWord_gap _ _ _
theorem ReservedBitsZero.rdSnDipr2 (n : SockId) : Statement (.rdSnDipr2 n) := internalWord_gap _ _ _
theorem ReservedBitsZero.wrSnDipr2 (n : SockId) (v : Byte) : Statement (.wrSnDipr2 n v) := internalWord_gap _ _ _
theorem ReservedBitsZero.rdSnDipr3 (n : SockId) : Statement (.rdSnDipr3 n) := internalWord_gap _ _ _
theorem ReservedBitsZero.wrSnDipr3 (n : SockId) (v : Byte) : Statement (.wrSnDipr3 n v) := internalWord_gap _ _ _
theorem ReservedBitsZero.rdSnDport0 (n : SockId) : Statement (.rdSnDport0 n) := internalWord_gap _ _ _
theorem ReservedBitsZero.wrSnDport0 (n : SockId) (v : Byte) : Statement (.wrSnDport0 n v) := internalWord_gap _ _ _
theorem ReservedBitsZero.rdSnDport1 (n : SockId) : Statement (.rdSnDport1 n) := internalWord_gap _ _ _
theorem ReservedBitsZero.wrSnDport1 (n : SockId) (v : Byte) : Statement (.wrSnDport1 n v) := internalWord_gap _ _ _
theorem ReservedBitsZero.rdSnTxFsr0 (n : SockId) : Statement (.rdSnTxFsr0 n) := internalWord_gap _ _ _
theorem ReservedBitsZero.wrSnTxFsr0 (n : SockId) (v : Byte) : Statement (.wrSnTxFsr0 n v) := internalWord_gap _ _ _
theorem ReservedBitsZero.rdSnTxFsr1 (n : SockId) : Statement (.rdSnTxFsr1 n) := internalWord_gap _ _ _
theorem ReservedBitsZero.wrSnTxFsr1 (n : SockId) (v : Byte) : Statement (.wrSnTxFsr1 n v) := internalWord_gap _ _ _
theorem ReservedBitsZero.rdSnTxRr0 (n : SockId) : Statement (.rdSnTxRr0 n) := internalWord_gap _ _ _
theorem ReservedBitsZero.wrSnTxRr0 (n : SockId) (v : Byte) : Statement (.wrSnTxRr0 n v) := internalWord_gap _ _ _
theorem ReservedBitsZero.rdSnTxRr1 (n : SockId) : Statement (.rdSnTxRr1 n) := internalWord_gap _ _ _
theorem ReservedBitsZero.wrSnTxRr1 (n : SockId) (v : Byte) : Statement (.wrSnTxRr1 n v) := internalWord_gap _ _ _
theorem ReservedBitsZero.rdSnTxWr0 (n : SockId) : Statement (.rdSnTxWr0 n) := internalWord_gap _ _ _
theorem ReservedBitsZero.wrSnTxWr0 (n : SockId) (v : Byte) : Statement (.wrSnTxWr0 n v) := internalWord_gap _ _ _
theorem ReservedBitsZero.rdSnTxWr1 (n : SockId) : Statement (.rdSnTxWr1 n) := internalWord_gap _ _ _
theorem ReservedBitsZero.wrSnTxWr1 (n : SockId) (v : Byte) : Statement (.wrSnTxWr1 n v) := internalWord_gap _ _ _
theorem ReservedBitsZero.rdSnRxRsr0 (n : SockId) : Statement (.rdSnRxRsr0 n) := internalWord_gap _ _ _
theorem ReservedBitsZero.wrSnRxRsr0 (n : SockId) (v : Byte) : Statement (.wrSnRxRsr0 n v) := internalWord_gap _ _ _
theorem ReservedBitsZero.rdSnRxRsr1 (n : SockId) : Statement (.rdSnRxRsr1 n) := internalWord_gap _ _ _
theorem ReservedBitsZero.wrSnRxRsr1 (n : SockId) (v : Byte) : Statement (.wrSnRxRsr1 n v) := internalWord_gap _ _ _
theorem ReservedBitsZero.rdSnRxRd0 (n : SockId) : Statement (.rdSnRxRd0 n) := internalWord_gap _ _ _
theorem ReservedBitsZero.wrSnRxRd0 (n : SockId) (v : Byte) : Statement (.wrSnRxRd0 n v) := internalWord_gap _ _ _
theorem ReservedBitsZero.rdSnRxRd1 (n : SockId) : Statement (.rdSnRxRd1 n) := internalWord_gap _ _ _
theorem ReservedBitsZero.wrSnRxRd1 (n : SockId) (v : Byte) : Statement (.wrSnRxRd1 n v) := internalWord_gap _ _ _
theorem ReservedBitsZero.cmdOpen (n : SockId) : Statement (.cmdOpen n) := internalWord_gap _ _ _
theorem ReservedBitsZero.cmdListen (n : SockId) : Statement (.cmdListen n) := internalWord_gap _ _ _
theorem ReservedBitsZero.cmdConnect (n : SockId) : Statement (.cmdConnect n) := internalWord_gap _ _ _
theorem ReservedBitsZero.cmdDiscon (n : SockId) : Statement (.cmdDiscon n) := internalWord_gap _ _ _
theorem ReservedBitsZero.cmdClose (n : SockId) : Statement (.cmdClose n) := internalWord_gap _ _ _
theorem ReservedBitsZero.cmdSend (n : SockId) : Statement (.cmdSend n) := internalWord_gap _ _ _
theorem ReservedBitsZero.cmdRecv (n : SockId) : Statement (.cmdRecv n) := internalWord_gap _ _ _
theorem ReservedBitsZero.cmdInvalid (n : SockId) (v : Byte) : Statement (.cmdInvalid n v) := internalWord_gap _ _ _
theorem ReservedBitsZero.rdTxbuf (n : SockId) (o : BitVec 11) : Statement (.rdTxbuf n o) := internalWord_gap _ _ _
theorem ReservedBitsZero.wrTxbuf (n : SockId) (o : BitVec 11) (v : Byte) : Statement (.wrTxbuf n o v) := internalWord_gap _ _ _
theorem ReservedBitsZero.rdRxbuf (n : SockId) (o : BitVec 11) : Statement (.rdRxbuf n o) := internalWord_gap _ _ _
theorem ReservedBitsZero.wrRxbuf (n : SockId) (o : BitVec 11) (v : Byte) : Statement (.wrRxbuf n o v) := internalWord_gap _ _ _
theorem ReservedBitsZero.rdUnmapped00 : Statement .rdUnmapped00 := internalWord_gap _ _ _
theorem ReservedBitsZero.wrUnmapped00 (v : Byte) : Statement (.wrUnmapped00 v) := internalWord_gap _ _ _
theorem ReservedBitsZero.rdUnmapped01 : Statement .rdUnmapped01 := internalWord_gap _ _ _
theorem ReservedBitsZero.wrUnmapped01 (v : Byte) : Statement (.wrUnmapped01 v) := internalWord_gap _ _ _
theorem ReservedBitsZero.rdUnmapped02 : Statement .rdUnmapped02 := internalWord_gap _ _ _
theorem ReservedBitsZero.wrUnmapped02 (v : Byte) : Statement (.wrUnmapped02 v) := internalWord_gap _ _ _
theorem ReservedBitsZero.rdUnmapped03 (o : BitVec 1) : Statement (.rdUnmapped03 o) := internalWord_gap _ _ _
theorem ReservedBitsZero.wrUnmapped03 (o : BitVec 1) (v : Byte) : Statement (.wrUnmapped03 o v) := internalWord_gap _ _ _
theorem ReservedBitsZero.rdUnmapped04 (o : BitVec 2) : Statement (.rdUnmapped04 o) := internalWord_gap _ _ _
theorem ReservedBitsZero.wrUnmapped04 (o : BitVec 2) (v : Byte) : Statement (.wrUnmapped04 o v) := internalWord_gap _ _ _
theorem ReservedBitsZero.rdUnmapped05 (o : BitVec 4) : Statement (.rdUnmapped05 o) := internalWord_gap _ _ _
theorem ReservedBitsZero.wrUnmapped05 (o : BitVec 4) (v : Byte) : Statement (.wrUnmapped05 o v) := internalWord_gap _ _ _
theorem ReservedBitsZero.rdUnmapped06 (o : BitVec 4) : Statement (.rdUnmapped06 o) := internalWord_gap _ _ _
theorem ReservedBitsZero.wrUnmapped06 (o : BitVec 4) (v : Byte) : Statement (.wrUnmapped06 o v) := internalWord_gap _ _ _
theorem ReservedBitsZero.rdUnmapped07 (o : BitVec 6) : Statement (.rdUnmapped07 o) := internalWord_gap _ _ _
theorem ReservedBitsZero.wrUnmapped07 (o : BitVec 6) (v : Byte) : Statement (.wrUnmapped07 o v) := internalWord_gap _ _ _
theorem ReservedBitsZero.rdUnmapped08 (o : BitVec 7) : Statement (.rdUnmapped08 o) := internalWord_gap _ _ _
theorem ReservedBitsZero.wrUnmapped08 (o : BitVec 7) (v : Byte) : Statement (.wrUnmapped08 o v) := internalWord_gap _ _ _
theorem ReservedBitsZero.rdUnmapped09 (o : BitVec 8) : Statement (.rdUnmapped09 o) := internalWord_gap _ _ _
theorem ReservedBitsZero.wrUnmapped09 (o : BitVec 8) (v : Byte) : Statement (.wrUnmapped09 o v) := internalWord_gap _ _ _
theorem ReservedBitsZero.rdUnmapped10 (o : BitVec 9) : Statement (.rdUnmapped10 o) := internalWord_gap _ _ _
theorem ReservedBitsZero.wrUnmapped10 (o : BitVec 9) (v : Byte) : Statement (.wrUnmapped10 o v) := internalWord_gap _ _ _
theorem ReservedBitsZero.rdUnmapped11 (o : BitVec 11) : Statement (.rdUnmapped11 o) := internalWord_gap _ _ _
theorem ReservedBitsZero.wrUnmapped11 (o : BitVec 11) (v : Byte) : Statement (.wrUnmapped11 o v) := internalWord_gap _ _ _
theorem ReservedBitsZero.rdUnmapped12 (o : BitVec 12) : Statement (.rdUnmapped12 o) := internalWord_gap _ _ _
theorem ReservedBitsZero.wrUnmapped12 (o : BitVec 12) (v : Byte) : Statement (.wrUnmapped12 o v) := internalWord_gap _ _ _
theorem ReservedBitsZero.rdUnmapped13 (o : BitVec 13) : Statement (.rdUnmapped13 o) := internalWord_gap _ _ _
theorem ReservedBitsZero.wrUnmapped13 (o : BitVec 13) (v : Byte) : Statement (.wrUnmapped13 o v) := internalWord_gap _ _ _
theorem ReservedBitsZero.rdUnmapped14 (o : BitVec 15) : Statement (.rdUnmapped14 o) := internalWord_gap _ _ _
theorem ReservedBitsZero.wrUnmapped14 (o : BitVec 15) (v : Byte) : Statement (.wrUnmapped14 o v) := internalWord_gap _ _ _
theorem ReservedBitsZero.rdUnmapped15 (n : SockId) (o : BitVec 1) : Statement (.rdUnmapped15 n o) := internalWord_gap _ _ _
theorem ReservedBitsZero.wrUnmapped15 (n : SockId) (o : BitVec 1) (v : Byte) : Statement (.wrUnmapped15 n o v) := internalWord_gap _ _ _
theorem ReservedBitsZero.rdUnmapped16 (n : SockId) (o : BitVec 2) : Statement (.rdUnmapped16 n o) := internalWord_gap _ _ _
theorem ReservedBitsZero.wrUnmapped16 (n : SockId) (o : BitVec 2) (v : Byte) : Statement (.wrUnmapped16 n o v) := internalWord_gap _ _ _
theorem ReservedBitsZero.rdUnmapped17 (n : SockId) (o : BitVec 1) : Statement (.rdUnmapped17 n o) := internalWord_gap _ _ _
theorem ReservedBitsZero.wrUnmapped17 (n : SockId) (o : BitVec 1) (v : Byte) : Statement (.wrUnmapped17 n o v) := internalWord_gap _ _ _
theorem ReservedBitsZero.rdUnmapped18 (n : SockId) (o : BitVec 2) : Statement (.rdUnmapped18 n o) := internalWord_gap _ _ _
theorem ReservedBitsZero.wrUnmapped18 (n : SockId) (o : BitVec 2) (v : Byte) : Statement (.wrUnmapped18 n o v) := internalWord_gap _ _ _
theorem ReservedBitsZero.rdUnmapped19 (n : SockId) (o : BitVec 3) : Statement (.rdUnmapped19 n o) := internalWord_gap _ _ _
theorem ReservedBitsZero.wrUnmapped19 (n : SockId) (o : BitVec 3) (v : Byte) : Statement (.wrUnmapped19 n o v) := internalWord_gap _ _ _
theorem ReservedBitsZero.rdUnmapped20 (n : SockId) (o : BitVec 1) : Statement (.rdUnmapped20 n o) := internalWord_gap _ _ _
theorem ReservedBitsZero.wrUnmapped20 (n : SockId) (o : BitVec 1) (v : Byte) : Statement (.wrUnmapped20 n o v) := internalWord_gap _ _ _
theorem ReservedBitsZero.rdUnmapped21 (n : SockId) (o : BitVec 2) : Statement (.rdUnmapped21 n o) := internalWord_gap _ _ _
theorem ReservedBitsZero.wrUnmapped21 (n : SockId) (o : BitVec 2) (v : Byte) : Statement (.wrUnmapped21 n o v) := internalWord_gap _ _ _
theorem ReservedBitsZero.rdUnmapped22 (n : SockId) (o : BitVec 4) : Statement (.rdUnmapped22 n o) := internalWord_gap _ _ _
theorem ReservedBitsZero.wrUnmapped22 (n : SockId) (o : BitVec 4) (v : Byte) : Statement (.wrUnmapped22 n o v) := internalWord_gap _ _ _
theorem ReservedBitsZero.rdUnmapped23 (n : SockId) (o : BitVec 6) : Statement (.rdUnmapped23 n o) := internalWord_gap _ _ _
theorem ReservedBitsZero.wrUnmapped23 (n : SockId) (o : BitVec 6) (v : Byte) : Statement (.wrUnmapped23 n o v) := internalWord_gap _ _ _
theorem ReservedBitsZero.rdUnmapped24 (n : SockId) (o : BitVec 7) : Statement (.rdUnmapped24 n o) := internalWord_gap _ _ _
theorem ReservedBitsZero.wrUnmapped24 (n : SockId) (o : BitVec 7) (v : Byte) : Statement (.wrUnmapped24 n o v) := internalWord_gap _ _ _
theorem ReservedBitsZero.tick : Statement .tick := hostWord_reserved _ _ _
theorem ReservedBitsZero.reset : Statement .reset := hostWord_reserved _ _ _

end Sys2Proof.Laws
end

