-- ==== Sys2Proof/Tests/Slice0.lean ====
section
/-! SUPPORT. The author's own tests. The expected results are those of the spec: the words of its encoding tables, and
the vectors of spec/95_test_vectors.md named in each docstring. -/

namespace Sys2Proof.Tests

open Sys2Proof.Machine

/-! ### WellFormed: an ill-formed term for each check -/

/-- R105: a command byte is no `CMD_INVALID`. -/
theorem test_wf_refuses_command_bytes :
    (Instr.cmdInvalid 0 0x01#8).wf = false ∧ (Instr.cmdInvalid 0 0x02#8).wf = false ∧
    (Instr.cmdInvalid 0 0x04#8).wf = false ∧ (Instr.cmdInvalid 1 0x08#8).wf = false ∧
    (Instr.cmdInvalid 2 0x10#8).wf = false ∧ (Instr.cmdInvalid 3 0x20#8).wf = false ∧
    (Instr.cmdInvalid 3 0x40#8).wf = false := by decide

/-- R105, R169: every other byte is one. -/
theorem test_wf_admits_other_bytes :
    (Instr.cmdInvalid 0 0x00#8).wf = true ∧ (Instr.cmdInvalid 0 0x03#8).wf = true ∧
    (Instr.cmdInvalid 0 0x80#8).wf = true := by decide

/-- R111: in indirect mode a direct row does not fit, but for an address above 3 under `DIRECT_ABOVE_3`. -/
theorem test_fits_refuses_direct_rows_in_indirect_mode :
    (Instr.hrdDirect 0x0003#16).fits .low2 true = false ∧ (Instr.hwrDirect 0x0400#16 1#8).fits .low2 true = false ∧
    (Instr.hrdDirect 0x0003#16).fits .directAbove3 true = false ∧
    (Instr.hwrDirect 0x0002#16 1#8).fits .directAbove3 true = false ∧
    (Instr.hrdDirect 0x0004#16).fits .directAbove3 true = true := by decide

/-- R112: in direct mode no shim row fits. -/
theorem test_fits_refuses_shim_rows_in_direct_mode :
    (Instr.hrdMrInd 0#14).fits .low2 false = false ∧ (Instr.hwrMrInd 0#14 1#8).fits .low2 false = false ∧
    (Instr.hrdIdmAr0 0#14).fits .low2 false = false ∧ (Instr.hwrIdmAr0 0#14 1#8).fits .low2 false = false ∧
    (Instr.hrdIdmAr1 0#14).fits .low2 false = false ∧ (Instr.hwrIdmAr1 0#14 1#8).fits .low2 false = false ∧
    (Instr.hrdIdmDr 0#14).fits .low2 false = false ∧ (Instr.hwrIdmDr 0#14 1#8).fits .low2 false = false := by decide

/-- R112: under `DIRECT_ABOVE_3` no shim row fits an address above 3. -/
theorem test_fits_refuses_shim_rows_above_three :
    (Instr.hrdMrInd 1#14).fits .directAbove3 true = false ∧ (Instr.hwrMrInd 1#14 1#8).fits .directAbove3 true = false ∧
    (Instr.hrdIdmAr0 1#14).fits .directAbove3 true = false ∧ (Instr.hwrIdmAr0 1#14 1#8).fits .directAbove3 true = false ∧
    (Instr.hrdIdmAr1 1#14).fits .directAbove3 true = false ∧ (Instr.hwrIdmAr1 1#14 1#8).fits .directAbove3 true = false ∧
    (Instr.hrdIdmDr 1#14).fits .directAbove3 true = false ∧
    (Instr.hwrIdmDr 1#14 1#8).fits .directAbove3 true = false := by decide

/-! ### Decoding: a word written out from the spec's tables for every constructor

A host word is `op << 24 | addr << 8 | data` (R86); an internal word is the data byte in bits 31..24, `we` in bit 16
and the address in bits 15..0 (R87, log 10). -/

/-- R86, R111, R112, R241, R301: the HOST and CTRL rows. -/
theorem test_decode_host_words :
    decode .low2 false (.host 0x0040300#32) = .ok (.hrdDirect 0x0403#16) ∧
    decode .low2 false (.host 0x1040120#32) = .ok (.hwrDirect 0x0401#16 0x20#8) ∧
    decode .low2 true (.host 0x0000000#32) = .ok (.hrdMrInd 0#14) ∧
    decode .low2 true (.host 0x1000003#32) = .ok (.hwrMrInd 0#14 0x03#8) ∧
    decode .low2 true (.host 0x0000100#32) = .ok (.hrdIdmAr0 0#14) ∧
    decode .low2 true (.host 0x10001A5#32) = .ok (.hwrIdmAr0 0#14 0xA5#8) ∧
    decode .low2 true (.host 0x0000200#32) = .ok (.hrdIdmAr1 0#14) ∧
    decode .low2 true (.host 0x100020F#32) = .ok (.hwrIdmAr1 0#14 0x0F#8) ∧
    decode .low2 true (.host 0x0000700#32) = .ok (.hrdIdmDr 1#14) ∧
    decode .low2 true (.host 0x10003C0#32) = .ok (.hwrIdmDr 0#14 0xC0#8) ∧
    decode .low2 false (.host 0x2000000#32) = .ok .tick ∧
    decode .low2 true (.host 0x3000000#32) = .ok .reset := by decide

/-- The words of spec/30_encoding.md R100 to R105 and spec/opcode_table.json. -/
theorem test_decode_global_read_0 :
    decode .low2 false (.internal 0x00000000#32) = .ok .rdMr ∧
    decode .low2 false (.internal 0x00000001#32) = .ok .rdGwr0 ∧
    decode .low2 false (.internal 0x00000002#32) = .ok .rdGwr1 ∧
    decode .low2 false (.internal 0x00000003#32) = .ok .rdGwr2 ∧
    decode .low2 false (.internal 0x00000004#32) = .ok .rdGwr3 ∧
    decode .low2 false (.internal 0x00000005#32) = .ok .rdSubr0 ∧
    decode .low2 false (.internal 0x00000006#32) = .ok .rdSubr1 ∧
    decode .low2 false (.internal 0x00000007#32) = .ok .rdSubr2 ∧
    decode .low2 false (.internal 0x00000008#32) = .ok .rdSubr3 ∧
    decode .low2 false (.internal 0x00000009#32) = .ok .rdShar0 ∧
    decode .low2 false (.internal 0x0000000A#32) = .ok .rdShar1 ∧
    decode .low2 false (.internal 0x0000000B#32) = .ok .rdShar2 ∧
    decode .low2 false (.internal 0x0000000C#32) = .ok .rdShar3 ∧
    decode .low2 false (.internal 0x0000000D#32) = .ok .rdShar4 := by decide

/-- The words of spec/30_encoding.md R100 to R105 and spec/opcode_table.json. -/
theorem test_decode_global_read_1 :
    decode .low2 false (.internal 0x0000000E#32) = .ok .rdShar5 ∧
    decode .low2 false (.internal 0x0000000F#32) = .ok .rdSipr0 ∧
    decode .low2 false (.internal 0x00000010#32) = .ok .rdSipr1 ∧
    decode .low2 false (.internal 0x00000011#32) = .ok .rdSipr2 ∧
    decode .low2 false (.internal 0x00000012#32) = .ok .rdSipr3 ∧
    decode .low2 false (.internal 0x00000015#32) = .ok .rdIr ∧
    decode .low2 false (.internal 0x00000016#32) = .ok .rdImr ∧
    decode .low2 false (.internal 0x0000001A#32) = .ok .rdRmsr ∧
    decode .low2 false (.internal 0x0000001B#32) = .ok .rdTmsr := by decide

/-- The words of spec/30_encoding.md R100 to R105 and spec/opcode_table.json. -/
theorem test_decode_global_write_0 :
    decode .low2 false (.internal 0x7B010000#32) = .ok (.wrMr 0x7B#8) ∧
    decode .low2 false (.internal 0xE5010001#32) = .ok (.wrGwr0 0xE5#8) ∧
    decode .low2 false (.internal 0x4F010002#32) = .ok (.wrGwr1 0x4F#8) ∧
    decode .low2 false (.internal 0xB9010003#32) = .ok (.wrGwr2 0xB9#8) ∧
    decode .low2 false (.internal 0x23010004#32) = .ok (.wrGwr3 0x23#8) ∧
    decode .low2 false (.internal 0x8D010005#32) = .ok (.wrSubr0 0x8D#8) ∧
    decode .low2 false (.internal 0xF7010006#32) = .ok (.wrSubr1 0xF7#8) ∧
    decode .low2 false (.internal 0x61010007#32) = .ok (.wrSubr2 0x61#8) ∧
    decode .low2 false (.internal 0xCB010008#32) = .ok (.wrSubr3 0xCB#8) ∧
    decode .low2 false (.internal 0x35010009#32) = .ok (.wrShar0 0x35#8) ∧
    decode .low2 false (.internal 0x9F01000A#32) = .ok (.wrShar1 0x9F#8) ∧
    decode .low2 false (.internal 0x0901000B#32) = .ok (.wrShar2 0x09#8) ∧
    decode .low2 false (.internal 0x7301000C#32) = .ok (.wrShar3 0x73#8) ∧
    decode .low2 false (.internal 0xDD01000D#32) = .ok (.wrShar4 0xDD#8) := by decide

/-- The words of spec/30_encoding.md R100 to R105 and spec/opcode_table.json. -/
theorem test_decode_global_write_1 :
    decode .low2 false (.internal 0x4701000E#32) = .ok (.wrShar5 0x47#8) ∧
    decode .low2 false (.internal 0xB101000F#32) = .ok (.wrSipr0 0xB1#8) ∧
    decode .low2 false (.internal 0x1B010010#32) = .ok (.wrSipr1 0x1B#8) ∧
    decode .low2 false (.internal 0x85010011#32) = .ok (.wrSipr2 0x85#8) ∧
    decode .low2 false (.internal 0xEF010012#32) = .ok (.wrSipr3 0xEF#8) ∧
    decode .low2 false (.internal 0x59010015#32) = .ok (.wrIr 0x59#8) ∧
    decode .low2 false (.internal 0xC3010016#32) = .ok (.wrImr 0xC3#8) ∧
    decode .low2 false (.internal 0x2D01001A#32) = .ok (.wrRmsr 0x2D#8) ∧
    decode .low2 false (.internal 0x9701001B#32) = .ok (.wrTmsr 0x97#8) := by decide

/-- The words of spec/30_encoding.md R100 to R105 and spec/opcode_table.json. -/
theorem test_decode_socket_read_0 :
    decode .low2 false (.internal 0x00000600#32) = .ok (.rdSnMr 2) ∧
    decode .low2 false (.internal 0x00000401#32) = .ok (.rdSnCr 0) ∧
    decode .low2 false (.internal 0x00000702#32) = .ok (.rdSnIr 3) ∧
    decode .low2 false (.internal 0x00000503#32) = .ok (.rdSnSr 1) ∧
    decode .low2 false (.internal 0x00000704#32) = .ok (.rdSnPort0 3) ∧
    decode .low2 false (.internal 0x00000505#32) = .ok (.rdSnPort1 1) ∧
    decode .low2 false (.internal 0x0000070C#32) = .ok (.rdSnDipr0 3) ∧
    decode .low2 false (.internal 0x0000050D#32) = .ok (.rdSnDipr1 1) ∧
    decode .low2 false (.internal 0x0000070E#32) = .ok (.rdSnDipr2 3) ∧
    decode .low2 false (.internal 0x0000050F#32) = .ok (.rdSnDipr3 1) ∧
    decode .low2 false (.internal 0x00000710#32) = .ok (.rdSnDport0 3) ∧
    decode .low2 false (.internal 0x00000511#32) = .ok (.rdSnDport1 1) ∧
    decode .low2 false (.internal 0x00000720#32) = .ok (.rdSnTxFsr0 3) ∧
    decode .low2 false (.internal 0x00000521#32) = .ok (.rdSnTxFsr1 1) := by decide

/-- The words of spec/30_encoding.md R100 to R105 and spec/opcode_table.json. -/
theorem test_decode_socket_read_1 :
    decode .low2 false (.internal 0x00000722#32) = .ok (.rdSnTxRr0 3) ∧
    decode .low2 false (.internal 0x00000523#32) = .ok (.rdSnTxRr1 1) ∧
    decode .low2 false (.internal 0x00000724#32) = .ok (.rdSnTxWr0 3) ∧
    decode .low2 false (.internal 0x00000525#32) = .ok (.rdSnTxWr1 1) ∧
    decode .low2 false (.internal 0x00000726#32) = .ok (.rdSnRxRsr0 3) ∧
    decode .low2 false (.internal 0x00000527#32) = .ok (.rdSnRxRsr1 1) ∧
    decode .low2 false (.internal 0x00000728#32) = .ok (.rdSnRxRd0 3) ∧
    decode .low2 false (.internal 0x00000529#32) = .ok (.rdSnRxRd1 1) := by decide

/-- The words of spec/30_encoding.md R100 to R105 and spec/opcode_table.json. -/
theorem test_decode_socket_write_0 :
    decode .low2 false (.internal 0x01010500#32) = .ok (.wrSnMr 1 0x01#8) ∧
    decode .low2 false (.internal 0xA0010602#32) = .ok (.wrSnIr 2 0xA0#8) ∧
    decode .low2 false (.internal 0x0A010403#32) = .ok (.wrSnSr 0 0x0A#8) ∧
    decode .low2 false (.internal 0x74010604#32) = .ok (.wrSnPort0 2 0x74#8) ∧
    decode .low2 false (.internal 0xDE010405#32) = .ok (.wrSnPort1 0 0xDE#8) ∧
    decode .low2 false (.internal 0x4801060C#32) = .ok (.wrSnDipr0 2 0x48#8) ∧
    decode .low2 false (.internal 0xB201040D#32) = .ok (.wrSnDipr1 0 0xB2#8) ∧
    decode .low2 false (.internal 0x1C01060E#32) = .ok (.wrSnDipr2 2 0x1C#8) ∧
    decode .low2 false (.internal 0x8601040F#32) = .ok (.wrSnDipr3 0 0x86#8) ∧
    decode .low2 false (.internal 0xF0010610#32) = .ok (.wrSnDport0 2 0xF0#8) ∧
    decode .low2 false (.internal 0x5A010411#32) = .ok (.wrSnDport1 0 0x5A#8) ∧
    decode .low2 false (.internal 0xC4010620#32) = .ok (.wrSnTxFsr0 2 0xC4#8) ∧
    decode .low2 false (.internal 0x2E010421#32) = .ok (.wrSnTxFsr1 0 0x2E#8) ∧
    decode .low2 false (.internal 0x98010622#32) = .ok (.wrSnTxRr0 2 0x98#8) := by decide

/-- The words of spec/30_encoding.md R100 to R105 and spec/opcode_table.json. -/
theorem test_decode_socket_write_1 :
    decode .low2 false (.internal 0x02010423#32) = .ok (.wrSnTxRr1 0 0x02#8) ∧
    decode .low2 false (.internal 0x6C010624#32) = .ok (.wrSnTxWr0 2 0x6C#8) ∧
    decode .low2 false (.internal 0xD6010425#32) = .ok (.wrSnTxWr1 0 0xD6#8) ∧
    decode .low2 false (.internal 0x40010626#32) = .ok (.wrSnRxRsr0 2 0x40#8) ∧
    decode .low2 false (.internal 0xAA010427#32) = .ok (.wrSnRxRsr1 0 0xAA#8) ∧
    decode .low2 false (.internal 0x14010628#32) = .ok (.wrSnRxRd0 2 0x14#8) ∧
    decode .low2 false (.internal 0x7E010429#32) = .ok (.wrSnRxRd1 0 0x7E#8) := by decide

/-- The words of spec/30_encoding.md R100 to R105 and spec/opcode_table.json. -/
theorem test_decode_command_0 :
    decode .low2 false (.internal 0x01010701#32) = .ok (.cmdOpen 3) ∧
    decode .low2 false (.internal 0x02010601#32) = .ok (.cmdListen 2) ∧
    decode .low2 false (.internal 0x04010501#32) = .ok (.cmdConnect 1) ∧
    decode .low2 false (.internal 0x08010401#32) = .ok (.cmdDiscon 0) ∧
    decode .low2 false (.internal 0x10010701#32) = .ok (.cmdClose 3) ∧
    decode .low2 false (.internal 0x20010601#32) = .ok (.cmdSend 2) ∧
    decode .low2 false (.internal 0x40010501#32) = .ok (.cmdRecv 1) ∧
    decode .low2 false (.internal 0x82010401#32) = .ok (.cmdInvalid 0 0x82#8) := by decide

/-- The words of spec/30_encoding.md R100 to R105 and spec/opcode_table.json. -/
theorem test_decode_buffer_0 :
    decode .low2 false (.internal 0x0000594B#32) = .ok (.rdTxbuf 3 0x14b#11) ∧
    decode .low2 false (.internal 0x90015400#32) = .ok (.wrTxbuf 2 0x400#11 0x90#8) ∧
    decode .low2 false (.internal 0x00006EB5#32) = .ok (.rdRxbuf 1 0x6b5#11) ∧
    decode .low2 false (.internal 0xFA01616A#32) = .ok (.wrRxbuf 0 0x16a#11 0xFA#8) := by decide

/-- The words of spec/30_encoding.md R100 to R105 and spec/opcode_table.json. -/
theorem test_decode_unmapped_read_0 :
    decode .low2 false (.internal 0x00000013#32) = .ok .rdUnmapped00 ∧
    decode .low2 false (.internal 0x00000014#32) = .ok .rdUnmapped01 ∧
    decode .low2 false (.internal 0x00000017#32) = .ok .rdUnmapped02 ∧
    decode .low2 false (.internal 0x00000019#32) = .ok (.rdUnmapped03 0x1#1) ∧
    decode .low2 false (.internal 0x0000001F#32) = .ok (.rdUnmapped04 0x3#2) ∧
    decode .low2 false (.internal 0x00000021#32) = .ok (.rdUnmapped05 0x1#4) ∧
    decode .low2 false (.internal 0x0000003B#32) = .ok (.rdUnmapped06 0xb#4) ∧
    decode .low2 false (.internal 0x00000045#32) = .ok (.rdUnmapped07 0x5#6) ∧
    decode .low2 false (.internal 0x000000EF#32) = .ok (.rdUnmapped08 0x6f#7) ∧
    decode .low2 false (.internal 0x000001D9#32) = .ok (.rdUnmapped09 0xd9#8) ∧
    decode .low2 false (.internal 0x00000243#32) = .ok (.rdUnmapped10 0x43#9) ∧
    decode .low2 false (.internal 0x00000FAD#32) = .ok (.rdUnmapped11 0x7ad#11) ∧
    decode .low2 false (.internal 0x00001517#32) = .ok (.rdUnmapped12 0x517#12) ∧
    decode .low2 false (.internal 0x00003A81#32) = .ok (.rdUnmapped13 0x1a81#13) := by decide

/-- The words of spec/30_encoding.md R100 to R105 and spec/opcode_table.json. -/
theorem test_decode_unmapped_read_1 :
    decode .low2 false (.internal 0x0000DFEB#32) = .ok (.rdUnmapped14 0x5feb#15) ∧
    decode .low2 false (.internal 0x00000507#32) = .ok (.rdUnmapped15 1 0x1#1) ∧
    decode .low2 false (.internal 0x0000070B#32) = .ok (.rdUnmapped16 3 0x3#2) ∧
    decode .low2 false (.internal 0x00000513#32) = .ok (.rdUnmapped17 1 0x1#1) ∧
    decode .low2 false (.internal 0x00000717#32) = .ok (.rdUnmapped18 3 0x3#2) ∧
    decode .low2 false (.internal 0x0000051D#32) = .ok (.rdUnmapped19 1 0x5#3) ∧
    decode .low2 false (.internal 0x0000072B#32) = .ok (.rdUnmapped20 3 0x1#1) ∧
    decode .low2 false (.internal 0x0000052D#32) = .ok (.rdUnmapped21 1 0x1#2) ∧
    decode .low2 false (.internal 0x0000073B#32) = .ok (.rdUnmapped22 3 0xb#4) ∧
    decode .low2 false (.internal 0x00000565#32) = .ok (.rdUnmapped23 1 0x25#6) ∧
    decode .low2 false (.internal 0x0000078F#32) = .ok (.rdUnmapped24 3 0xf#7) := by decide

/-- The words of spec/30_encoding.md R100 to R105 and spec/opcode_table.json. -/
theorem test_decode_unmapped_write_0 :
    decode .low2 false (.internal 0x64010013#32) = .ok (.wrUnmapped00 0x64#8) ∧
    decode .low2 false (.internal 0xCE010014#32) = .ok (.wrUnmapped01 0xCE#8) ∧
    decode .low2 false (.internal 0x38010017#32) = .ok (.wrUnmapped02 0x38#8) ∧
    decode .low2 false (.internal 0xA2010018#32) = .ok (.wrUnmapped03 0x0#1 0xA2#8) ∧
    decode .low2 false (.internal 0x0C01001C#32) = .ok (.wrUnmapped04 0x0#2 0x0C#8) ∧
    decode .low2 false (.internal 0x76010026#32) = .ok (.wrUnmapped05 0x6#4 0x76#8) ∧
    decode .low2 false (.internal 0xE0010030#32) = .ok (.wrUnmapped06 0x0#4 0xE0#8) ∧
    decode .low2 false (.internal 0x4A01007A#32) = .ok (.wrUnmapped07 0x3a#6 0x4A#8) ∧
    decode .low2 false (.internal 0xB40100A4#32) = .ok (.wrUnmapped08 0x24#7 0xB4#8) ∧
    decode .low2 false (.internal 0x1E01018E#32) = .ok (.wrUnmapped09 0x8e#8 0x1E#8) ∧
    decode .low2 false (.internal 0x880102F8#32) = .ok (.wrUnmapped10 0xf8#9 0x88#8) ∧
    decode .low2 false (.internal 0xF2010A62#32) = .ok (.wrUnmapped11 0x262#11 0xF2#8) ∧
    decode .low2 false (.internal 0x5C0117CC#32) = .ok (.wrUnmapped12 0x7cc#12 0x5C#8) ∧
    decode .low2 false (.internal 0xC6013D36#32) = .ok (.wrUnmapped13 0x1d36#13 0xC6#8) := by decide

/-- The words of spec/30_encoding.md R100 to R105 and spec/opcode_table.json. -/
theorem test_decode_unmapped_write_1 :
    decode .low2 false (.internal 0x3001E2A0#32) = .ok (.wrUnmapped14 0x62a0#15 0x30#8) ∧
    decode .low2 false (.internal 0x9A010406#32) = .ok (.wrUnmapped15 0 0x0#1 0x9A#8) ∧
    decode .low2 false (.internal 0x04010608#32) = .ok (.wrUnmapped16 2 0x0#2 0x04#8) ∧
    decode .low2 false (.internal 0x6E010412#32) = .ok (.wrUnmapped17 0 0x0#1 0x6E#8) ∧
    decode .low2 false (.internal 0xD8010614#32) = .ok (.wrUnmapped18 2 0x0#2 0xD8#8) ∧
    decode .low2 false (.internal 0x4201041A#32) = .ok (.wrUnmapped19 0 0x2#3 0x42#8) ∧
    decode .low2 false (.internal 0xAC01062A#32) = .ok (.wrUnmapped20 2 0x0#1 0xAC#8) ∧
    decode .low2 false (.internal 0x1601042E#32) = .ok (.wrUnmapped21 0 0x2#2 0x16#8) ∧
    decode .low2 false (.internal 0x80010630#32) = .ok (.wrUnmapped22 2 0x0#4 0x80#8) ∧
    decode .low2 false (.internal 0xEA01045A#32) = .ok (.wrUnmapped23 0 0x1a#6 0xEA#8) ∧
    decode .low2 false (.internal 0x540106C4#32) = .ok (.wrUnmapped24 2 0x44#7 0x54#8) := by decide

/-- R108 (f): words that spell no transaction. -/
theorem test_decode_refuses_reserved_words :
    decode .low2 false (.host 0x4000000#32) = .error .highBits ∧
    decode .low2 false (.host 0x0000001#32) = .error .readWithData ∧
    decode .low2 false (.host 0x2000001#32) = .error .controlWithOperands ∧
    decode .low2 true (.host 0x3000100#32) = .error .controlWithOperands ∧
    decode .low2 false (.internal 0x00020000#32) = .error .internalGap ∧
    decode .low2 false (.internal 0x01000000#32) = .error .internalReadWithData := by decide

/-- V-BUS B6 (R112): host address 0x007 in indirect mode, under each value of `IND_HOST_DECODE`. -/
theorem test_decode_ind_host_decode :
    decode .low2 true (.host 0x0000700#32) = .ok (.hrdIdmDr 1#14) ∧
    decode .directAbove3 true (.host 0x0000700#32) = .ok (.hrdDirect 0x0007#16) := by decide

/-- The table's own numbering of an internal and of a control row (log 11). -/
theorem test_decodeTableWord :
    decodeTableWord 24 0x10001 = some (.wrGwr0 0x00#8) ∧ decodeTableWord 32 0x2000000 = some .tick := by decide

/-! ### One step on a small state -/

/-- The state after reset with one socket replaced and network answers scripted. -/
def withSock (n : SockId) (k : Socket) (net : List NetAnswer) : State :=
  { State.reset with socks := State.reset.socks.set n k, netIn := net }

/-- A socket in a given state, with the descriptor 4 unless it is Closed. -/
def inState (st : SockState) : Socket :=
  { Socket.reset with state := st, fd := if st = .closed then none else some 4 }

/-- Does the instruction answer a next state with this property? -/
def answers (i : Instr) (s : State) (p : State → Bool) : Bool :=
  match exec i s with
  | .next t => p t
  | .fault _ | .refused _ => false

/-- Does the next transaction answer a next state with this property? -/
def steps (t : Transaction) (s : State) (p : State → Bool) : Bool :=
  match step (s.withNext t) with
  | .next t => p t
  | .fault _ | .refused _ => false

/-- V-BUS B1. -/
theorem test_direct_write_stores : steps (.host 0x10001C0#32) State.reset (fun t => t.gwr.e0 == 0xC0#8) = true := by
  decide

/-- V-BUS B3: the auto-increment wraps. -/
theorem test_data_register_wraps :
    answers (.hrdIdmDr 0#14) { State.reset with mr := 0x03#8, idmAr := 0xFFFF#16 }
      (fun t => t.idmAr == 0x0000#16 && t.draws == 1) = true := by decide

/-- V-BUS B4: the data register's target is decoded by the direct map; without AI the address stays. -/
theorem test_data_register_target :
    answers (.hwrIdmDr 0#14 0x55#8) { State.reset with mr := 0x01#8, idmAr := 0x0001#16 }
      (fun t => t.gwr.e0 == 0x55#8 && t.idmAr == 0x0001#16) = true := by decide

/-- V-BUS B5: no increment after a soft reset. -/
theorem test_data_register_soft_reset :
    answers (.hwrIdmDr 0#14 0x83#8) { State.reset with mr := 0x03#8, gwr := ⟨1#8, 2#8, 3#8, 4#8⟩ }
      (fun t => t.idmAr == 0x0000#16 && t.mr == 0x00#8 && t.gwr.e3 == 0#8) = true := by decide

/-- V-BUS B8. -/
theorem test_shim_high_half :
    answers (.hwrIdmAr0 0#14 0x04#8) { State.reset with mr := 0x03#8, idmAr := 0x1234#16 }
      (fun t => t.idmAr == 0x0434#16) = true := by decide

/-- R117: the low half keeps the high half. -/
theorem test_shim_low_half :
    answers (.hwrIdmAr1 0#14 0x99#8) { State.reset with mr := 0x03#8, idmAr := 0x1234#16 }
      (fun t => t.idmAr == 0x1299#16) = true := by decide

/-- V-BUS B9. -/
theorem test_shim_mode_register :
    answers (.hrdMrInd 0#14) { State.reset with mr := 0x01#8 } (fun t => t.busRdata == some 0x01#8) = true := by decide

/-- V-REG G1, G2, G3: write 1 to clear. -/
theorem test_interrupt_write_one_clears :
    answers (.wrSnIr 0 0x04#8) (withSock 0 { inState .udp with ir := 0b10101#5 } [])
      (fun t => (t.sock 0).ir == 0b10001#5) = true ∧
    answers (.wrSnIr 0 0xFF#8) (withSock 0 { inState .udp with ir := 0b10101#5 } [])
      (fun t => (t.sock 0).ir == 0#5) = true ∧
    answers (.wrSnIr 0 0x00#8) (withSock 0 { inState .udp with ir := 0b10101#5 } [])
      (fun t => (t.sock 0).ir == 0b10101#5) = true := by decide

/-- Sockets 1 and 3 pending, as in V-REG G4 and G5. -/
def pendingState (imr : Byte) : State :=
  { State.reset with
    imr := imr
    socks := ⟨Socket.reset, { Socket.reset with ir := 0x10#5 }, Socket.reset, { Socket.reset with ir := 0x01#5 }⟩ }

/-- V-REG G4. -/
theorem test_global_interrupt_register :
    answers .rdIr (pendingState 0x00#8) (fun t => t.busRdata == some 0x0A#8) = true := by decide

/-- V-REG G5. -/
theorem test_interrupt_output : (pendingState 0x02#8).intOut = true ∧ (pendingState 0x04#8).intOut = false := by decide

/-- V-REG G8, G9, G10: the accepted mode bytes. -/
theorem test_mode_filter :
    answers (.wrSnMr 0 0x21#8) State.reset (fun t => (t.sock 0).mr == 0x00#8) = true ∧
    answers (.wrSnMr 0 0x03#8) State.reset (fun t => (t.sock 0).mr == 0x00#8) = true ∧
    answers (.wrSnMr 0 0x02#8) State.reset (fun t => (t.sock 0).mr == 0x02#8) = true := by decide

/-- V-REG G11: the transmit read pointer is read-only. -/
theorem test_tx_rr_read_only :
    answers (.wrSnTxRr0 0 0xAB#8) (withSock 0 { inState .udp with txRR := 0x0010#16 } [])
      (fun t => (t.sock 0).txRR == 0x0010#16) = true := by decide

/-- V-REG G12. -/
theorem test_rx_rsr :
    answers (.rdSnRxRsr0 2) (withSock 2 { inState .udp with rxAvail := 2048 } [])
      (fun t => t.busRdata == some 0x08#8) = true ∧
    answers (.rdSnRxRsr1 2) (withSock 2 { inState .udp with rxAvail := 2048 } [])
      (fun t => t.busRdata == some 0x00#8) = true := by decide

/-- P1: `txRR` 0xFFFE, `txWR` 0x0005. -/
theorem test_tx_fsr_wraps :
    answers (.rdSnTxFsr0 1) (withSock 1 { inState .udp with txRR := 0xFFFE#16, txWR := 0x0005#16 } [])
      (fun t => t.busRdata == some 0x07#8) = true ∧
    answers (.rdSnTxFsr1 1) (withSock 1 { inState .udp with txRR := 0xFFFE#16, txWR := 0x0005#16 } [])
      (fun t => t.busRdata == some 0xF9#8) = true := by decide

/-- P1: clamped at 0 (C7). -/
theorem test_tx_fsr_clamps :
    answers (.rdSnTxFsr0 1) (withSock 1 { inState .udp with txRR := 0x0005#16 } [])
      (fun t => t.busRdata == some 0x00#8) = true ∧
    answers (.rdSnTxFsr1 1) (withSock 1 { inState .udp with txRR := 0x0005#16 } [])
      (fun t => t.busRdata == some 0x00#8) = true := by decide

/-- V-REG G16, G17: where a buffer byte lives. -/
theorem test_buffer_write :
    steps (.host 0x14FFF5A#32) State.reset (fun t => t.mem == [(0x4FFF, 0x5A#8)]) = true ∧
    steps (.host 0x1780011#32) State.reset (fun t => t.mem == [(0x7800, 0x11#8)]) = true := by decide

/-- V-REG G18 (R165): the two halves of the port, the first write counted. -/
theorem test_port_halves :
    answers (.wrSnPort0 0 0x12#8) State.reset (fun t => (t.sock 0).port == 0x1200#16 && (t.sock 0).bwc == 1) = true ∧
    answers (.wrSnPort1 0 0x34#8) (withSock 0 { Socket.reset with port := 0x1200#16 } [])
      (fun t => (t.sock 0).port == 0x1234#16) = true := by decide

/-- V-CMD K28: the second port write of an unbound Udp socket binds. -/
theorem test_port_write_binds :
    answers (.wrSnPort1 0 0x88#8) (withSock 0 { inState .udp with bwc := 1, port := 0x1300#16 } [.ok])
      (fun t => (t.sock 0).bound && (t.sock 0).bwc == 2 &&
        t.netOut == [.bind (some 4) ⟨0#8, 0#8, 0#8, 0#8⟩ 0x1388#16]) = true := by decide

/-- V-CMD K1. -/
theorem test_open_tcp :
    answers (.cmdOpen 0) (withSock 0 { Socket.reset with mr := 0x01#8, txWR := 0x0007#16 } [.okFd 3])
      (fun t => (t.sock 0).state == .init && (t.sock 0).fd == some 3 && (t.sock 0).lastSendMark == 0x0007#16 &&
        t.netOut == [.socket .stream]) = true := by decide

/-- V-CMD K2: the bind failure at OPEN. -/
theorem test_open_bind_failure :
    answers (.cmdOpen 0) (withSock 0 { Socket.reset with mr := 0x02#8, bwc := 2 } [.okFd 3, .fail])
      (fun t => (t.sock 0).state == .closed && (t.sock 0).ir == 0b00010#5 && (t.sock 0).bwc == 0 &&
        t.netOut.head? == some (.close 3)) = true := by decide

/-- Socket 1 holds token 4 and token 5 has been closed; `NetSocket` answers `Ok(f)`. -/
def tokenWitness (f : Fd) : State :=
  { withSock 1 (inState .udp) [.okFd f] with
    socks := (withSock 1 (inState .udp) []).socks.set 0 { Socket.reset with mr := 0x01#8 }, netOut := [.close 5] }

/-- R12: a token is drawn anew once its descriptor is closed, and never while it is open (here by socket 1). -/
theorem test_open_token :
    answers (.cmdOpen 0) (tokenWitness 4) (fun t => (t.sock 0).fd == none) = true ∧
    answers (.cmdOpen 0) (tokenWitness 5) (fun t => (t.sock 0).fd == some 5) = true := by decide

/-- V-CMD K6. -/
theorem test_listen :
    answers (.cmdListen 0) (withSock 0 (inState .init) [.ok, .ok]) (fun t => (t.sock 0).state == .listen) = true := by
  decide

/-- V-CMD K7. -/
theorem test_listen_failure :
    answers (.cmdListen 0) (withSock 0 { inState .init with bound := true } [.fail])
      (fun t => (t.sock 0).state == .init && (t.sock 0).bound && (t.sock 0).ir == 0#5) = true := by decide

/-- V-CMD K9. -/
theorem test_connect_in_progress :
    answers (.cmdConnect 1) (withSock 1 { inState .init with bound := true } [.inProgress])
      (fun t => (t.sock 1).state == .connecting && (t.sock 1).ir == 0#5) = true := by decide

/-- V-CMD K10. -/
theorem test_connect_failure :
    answers (.cmdConnect 1) (withSock 1 { inState .init with bound := true } [.fail])
      (fun t => (t.sock 1).state == .closed && (t.sock 1).ir == 0b00010#5 && t.netOut.head? == some (.close 4)) = true := by
  decide

/-- V-CMD K13. -/
theorem test_discon :
    answers (.cmdDiscon 0) (withSock 0 { inState .established with rxAvail := 9 } [])
      (fun t => (t.sock 0).state == .closed && (t.sock 0).ir == 0b00010#5 && (t.sock 0).rxAvail == 9) = true := by
  decide

/-- V-CMD K15. -/
theorem test_close_of_closed :
    answers (.cmdClose 0) (withSock 0 { Socket.reset with bwc := 1 } [])
      (fun t => (t.sock 0).bwc == 0 && t.netOut == []) = true := by decide

/-- V-CMD K19: the length wraps at 16 bits. -/
theorem test_send_udp :
    answers (.cmdSend 0) (withSock 0 { inState .udp with txWR := 0x0003#16, lastSendMark := 0xFFFE#16 } [])
      (fun t => (t.sock 0).dgq == [5#16] && (t.sock 0).writePending && (t.sock 0).lastSendMark == 0x0003#16) = true := by
  decide

/-- V-CMD K18. -/
theorem test_send_overflow :
    answers (.cmdSend 0) (withSock 0 { inState .udp with dgq := List.replicate 32 1#16 } [])
      (fun t => t.fault == some .dgqOverflow && (t.sock 0).dgq.length == 32) = true := by decide

/-- V-CMD K22. -/
theorem test_recv_partial :
    answers (.cmdRecv 0) (withSock 0 { inState .established with rxAvail := 10, rxRD := 4#16 } [])
      (fun t => (t.sock 0).rxAvail == 6 && (t.sock 0).oldRxRD == 4#16 && (t.sock 0).ir == 0b00100#5) = true := by decide

/-- V-CMD K24: the subtraction saturates. -/
theorem test_recv_saturates :
    answers (.cmdRecv 0) (withSock 0 { inState .established with rxAvail := 4, rxRD := 10#16 } [])
      (fun t => (t.sock 0).rxAvail == 0 && (t.sock 0).oldRxRD == 10#16 && (t.sock 0).ir == 0#5) = true := by decide

/-- V-CMD K30. -/
theorem test_combined_command_bits_are_no_command :
    steps (.host 0x1040103#32) (withSock 0 { Socket.reset with mr := 0x01#8 } [.okFd 3])
      (fun t => (t.sock 0).state == .closed && t.netOut == []) = true := by decide

/-- V-TICK T10 (R222, R252): an empty datagram. -/
theorem test_tick_udp_receive :
    answers .tick (withSock 0 (inState .udp) [.ready true false, .dgram [] ⟨1#8, 2#8, 3#8, 4#8⟩ 7#16])
      (fun t => (t.sock 0).rxAvail == 8 && (t.sock 0).ir == 0b00100#5 &&
        t.mem == [(0x6000, 1#8), (0x6001, 2#8), (0x6002, 3#8), (0x6003, 4#8), (0x6004, 0#8), (0x6005, 7#8),
          (0x6006, 0#8), (0x6007, 0#8)]) = true := by decide

/-- V-TICK T12 (R254): one datagram of two. -/
theorem test_tick_udp_flush :
    answers .tick (withSock 0 { inState .udp with dgq := [3#16, 4#16], writePending := true } [.ready false true, .sent 3])
      (fun t => (t.sock 0).txRR == 3#16 && (t.sock 0).dgq == [4#16] && (t.sock 0).writePending &&
        (t.sock 0).ir == 0b10000#5) = true := by decide

/-- I-1 (R302): the soft reset closes the descriptor and keeps the buffers. -/
theorem test_soft_reset :
    answers (.wrMr 0x80#8)
      { withSock 0 { inState .established with ir := 0b00101#5 } [] with mem := [(0x4000, 1#8)], imr := 0x0F#8 }
      (fun t => (t.sock 0) == Socket.reset && t.netOut == [.close 4] && t.mem == [(0x4000, 1#8)] && t.imr == 0#8) = true := by
  decide

/-- I-2 (R301): power-up reset draws the buffers anew. -/
theorem test_power_up_reset :
    answers .reset { State.reset with mem := [(0x4000, 1#8)], mr := 0x03#8 }
      (fun t => t.mem == [] && t.mr == 0#8 && t.powerUps == 1) = true := by decide

/-! ### The hypotheses of the obligations can be met -/

theorem witness_DecodeOfEncodeIsTheInstruction :
    (Instr.cmdInvalid 3 0xFF#8).wf = true ∧ (Instr.cmdInvalid 3 0xFF#8).fits .directAbove3 true = true ∧
    (Instr.hwrDirect 0xFFFF#16 0xFF#8).wf = true ∧ (Instr.hwrDirect 0xFFFF#16 0xFF#8).fits .directAbove3 true = true := by
  decide

theorem witness_EncodeOfDecodeIsTheWord :
    decode .directAbove3 true (.host 0x1FFFFFF#32) = .ok (.hwrDirect 0xFFFF#16 0xFF#8) := by decide

theorem witness_StepRunsTheDecodedTransaction :
    (State.reset.withNext (.host 0x2000000#32)).busIn = .host 0x2000000#32 :: [] ∧
    decode State.reset.params.indHostDecode (State.reset.mr.getLsbD 0) (.host 0x2000000#32) = .ok .tick ∧
    State.reset.busIn = [] := by decide

theorem witness_ReservedWordsAreRefused :
    (State.reset.withNext (.host (hostWord 0#2 0xFFFF#16 1#8))).busIn = .host (hostWord 0#2 0xFFFF#16 1#8) :: [] ∧
    (1#8 ≠ 0#8) ∧
    (State.reset.withNext (.host (hostWord 3#2 1#16 0#8))).busIn = .host (hostWord 3#2 1#16 0#8) :: [] ∧
    (1#16 ≠ 0#16) := by decide

def fullQueueWitness : State :=
  { withSock 3 { Socket.reset with state := .udp, fd := some 4, dgq := List.replicate 32 1#16 } [] with
    mr := 0x03#8, idmAr := 0x0701#16 }

/-- A plain write at the last address, a soft reset, and a SEND on a full datagram queue. -/
theorem witness_DataRegisterWriteRedirectsAndIncrements :
    (¬ ((0xFFFF#16 : Word) = 0#16 ∧ (0xFF#8 : Byte).getLsbD 7 = true)) ∧
    writeFaults 0xFFFF#16 0xFF#8 { State.reset with idmAr := 0xFFFF#16 } = false ∧
    State.reset.idmAr = 0#16 ∧ (0x80#8 : Byte).getLsbD 7 = true ∧
    fullQueueWitness.idmAr = sockAddr 3 0x01#8 ∧ (fullQueueWitness.sock 3).state = .udp ∧
    32 ≤ (fullQueueWitness.sock 3).dgq.length := by decide

theorem witness_BurstThroughTheDataRegister : ({ State.reset with mr := 0x03#8 } : State).mr = 0x03#8 := by decide

theorem witness_ModeWriteStoresOrResets :
    (0x7F#8 : Byte).getLsbD 7 = false ∧ (0x80#8 : Byte).getLsbD 7 = true := by decide

theorem witness_GlobalInterruptRegisterShowsPendingSockets :
    answers (.wrSnIr 3 0xFF#8) (pendingState 0x00#8) (fun t => t.irValue.getLsbD 3 == false) = true := by decide

theorem witness_ShimReachesModeAndAddressRegisters : (0x03#8 : Byte).getLsbD 7 = false := by decide

theorem witness_SocketPairReadsAnswerTheHalves :
    ((withSock 1 { inState .udp with rxAvail := 2048 } []).sock 1).rxAvail ≤ 2048 := by decide

theorem witness_TransmitFreeSpaceIsClamped :
    (((withSock 1 { inState .udp with txWR := 2048#16 } []).sock 1).txWR -
      ((withSock 1 { inState .udp with txWR := 2048#16 } []).sock 1).txRR).toNat ≤ 2048 ∧
    2048 < (((withSock 1 { inState .udp with txWR := 2049#16 } []).sock 1).txWR -
      ((withSock 1 { inState .udp with txWR := 2049#16 } []).sock 1).txRR).toNat := by decide

theorem witness_SocketInterruptWriteOneClears : 4 < 5 := by decide

theorem witness_ModeByteIsFiltered :
    0x02#8 ∈ State.reset.params.snMrAccept ∧ 0x03#8 ∉ State.reset.params.snMrAccept := by decide

theorem witness_PortWriteStoresAndCounts :
    (State.reset.sock 0).bwc ≠ 1 ∧ ((withSock 0 { Socket.reset with bwc := 1 } []).sock 0).fd = none ∧
    ((withSock 0 { inState .udp with bwc := 1, bound := true } []).sock 0).bound = true := by decide

def portWitness (a : NetAnswer) : State := withSock 0 { inState .udp with bwc := 1, port := 0x13FF#16 } [a]

theorem witness_SecondPortWriteBinds :
    ((portWitness .ok).sock 0).bwc = 1 ∧ ((portWitness .ok).sock 0).fd = some 4 ∧
    ((portWitness .ok).sock 0).bound = false ∧ (portWitness .ok).netIn = .ok :: [] := by decide

theorem witness_BusReadReturnsLastBusWriteOfABufferByte :
    0x4000 ≤ (0x4000#16 : Word).toNat ∧ (0x7FFF#16 : Word).toNat < 0x8000 := by decide

def openWitness (mode : Byte) (writes : Nat) (net : List NetAnswer) : State :=
  withSock 0 { Socket.reset with mr := mode, bwc := writes } net

/-- TCP and UDP, with the boundary value 1 of the write count. -/
theorem witness_OpenCreatesTheDescriptor :
    ((openWitness 0x01#8 1 [.okFd 0]).sock 0).state = .closed ∧
    opensAs ((openWitness 0x01#8 1 [.okFd 0]).sock 0) .stream .init ∧ ((openWitness 0x01#8 1 [.okFd 0]).sock 0).bwc ≠ 2 ∧
    (openWitness 0x01#8 1 [.okFd 0]).netIn = .okFd 0 :: [] ∧
    opensAs ((openWitness 0x02#8 1 [.okFd 0]).sock 0) .dgram .udp ∧
    ∀ m, ((openWitness 0x01#8 1 [.okFd 0]).sock m).fd ≠ some 0 := by
  unfold opensAs; decide

theorem witness_OpenBindsAfterTwoPortWrites :
    ((openWitness 0x02#8 2 [.okFd 0, .ok]).sock 0).state = .closed ∧
    opensAs ((openWitness 0x02#8 2 [.okFd 0, .ok]).sock 0) .dgram .udp ∧
    ((openWitness 0x02#8 2 [.okFd 0, .ok]).sock 0).bwc = 2 ∧
    ((openWitness 0x02#8 2 [.okFd 0, .ok]).sock 0).bound = false ∧
    (openWitness 0x02#8 2 [.okFd 0, .ok]).netIn = .okFd 0 :: .ok :: [] ∧
    ∀ m, ((openWitness 0x02#8 2 [.okFd 0, .ok]).sock m).fd ≠ some 0 := by
  unfold opensAs; decide

theorem witness_OpenFailureIsSilent :
    ((openWitness 0x01#8 2 [.fail]).sock 0).state = .closed ∧
    opensAs ((openWitness 0x01#8 2 [.fail]).sock 0) .stream .init ∧ (openWitness 0x01#8 2 [.fail]).netIn = .fail :: [] := by
  unfold opensAs; decide

theorem witness_MisplacedCommandsAreIgnored :
    ((withSock 0 (inState .init) []).sock 0).state ≠ .closed ∧
    protocol (State.reset.sock 0) ≠ 1#4 ∧ protocol (State.reset.sock 0) ≠ 2#4 ∧
    ((withSock 0 (inState .listen) []).sock 0).state ≠ .init ∧
    ((withSock 0 (inState .udp) []).sock 0).state ≠ .established ∧
    ((withSock 0 (inState .udp) []).sock 0).state ≠ .closeWait ∧
    ((withSock 0 (inState .closeWait) []).sock 0).state ≠ .udp ∧
    ((withSock 0 (inState .closeWait) []).sock 0).state ≠ .established ∧
    ((withSock 0 (inState .connecting) []).sock 0).state ≠ .closeWait ∧
    isCommandByte 0x00#8 = false ∧ isCommandByte 0x80#8 = false := by decide

def initWitness (bound : Bool) (net : List NetAnswer) : State := withSock 0 { inState .init with bound := bound } net

theorem witness_ListenOfABoundSocket :
    ((initWitness true [.ok]).sock 0).state = .init ∧ ((initWitness true [.ok]).sock 0).bound = true ∧
    (initWitness true [.ok]).netIn = .ok :: [] ∧ (initWitness true [.fail]).netIn = .fail :: [] ∧
    ((initWitness false [.ok, .ok]).sock 0).bound = false ∧ (initWitness false [.ok, .ok]).netIn = .ok :: .ok :: [] ∧
    (initWitness false [.ok, .fail]).netIn = .ok :: .fail :: [] := by decide

/-- The clauses of LISTEN and CONNECT, of a port write, and of OPEN. -/
theorem witness_BindFailureDisconnects :
    ((initWitness false [.fail]).sock 0).bound = false ∧ ((initWitness false [.fail]).sock 0).state = .init ∧
    (initWitness false [.fail]).netIn = .fail :: [] ∧
    ((portWitness .fail).sock 0).bound = false ∧ ((portWitness .fail).sock 0).bwc = 1 ∧
    ((portWitness .fail).sock 0).fd = some 4 ∧ (portWitness .fail).netIn = .fail :: [] ∧
    (0x12FF#16 : Word).toNat = (0x12#8 : Byte).toNat * 256 + ((portWitness .fail).sock 0).port.toNat % 256 ∧
    (0x1388#16 : Word).toNat = ((portWitness .fail).sock 0).port.toNat / 256 * 256 + (0x88#8 : Byte).toNat ∧
    ((openWitness 0x01#8 2 [.okFd 0, .fail]).sock 0).state = .closed ∧
    ((openWitness 0x01#8 2 [.okFd 0, .fail]).sock 0).bound = false ∧
    opensAs ((openWitness 0x01#8 2 [.okFd 0, .fail]).sock 0) .stream .init ∧
    ((openWitness 0x01#8 2 [.okFd 0, .fail]).sock 0).bwc = 2 ∧
    (openWitness 0x01#8 2 [.okFd 0, .fail]).netIn = .okFd 0 :: .fail :: [] ∧
    ∀ m, ((openWitness 0x01#8 2 [.okFd 0, .fail]).sock m).fd ≠ some 0 := by
  unfold opensAs; decide

theorem witness_ConnectTakesItsAnswer :
    ((initWitness true [.ok]).sock 0).state = .init ∧ ((initWitness true [.ok]).sock 0).bound = true ∧
    (initWitness true [.ok]).netIn = .ok :: [] ∧ (initWitness true [.inProgress]).netIn = .inProgress :: [] ∧
    (initWitness true [.fail]).netIn = .fail :: [] ∧ ((initWitness false [.ok, .ok]).sock 0).state = .init ∧
    ((initWitness false [.ok, .ok]).sock 0).bound = false ∧ (initWitness false [.ok, .ok]).netIn = .ok :: .ok :: [] ∧
    (initWitness false [.ok, .inProgress]).netIn = .ok :: .inProgress :: [] ∧
    (initWitness false [.ok, .fail]).netIn = .ok :: .fail :: [] := by decide

theorem witness_DisconReleasesWithItsBit :
    ((withSock 0 (inState .established) []).sock 0).state = .established ∧
    ((withSock 0 (inState .closeWait) []).sock 0).state = .closeWait := by decide

def queueWitness (st : SockState) (queued : Nat) : State :=
  withSock 0 { inState st with dgq := List.replicate queued 1#16 } []

theorem witness_SendRequestsAFlush :
    ((queueWitness .established 0).sock 0).state = .established ∧ ((queueWitness .udp 31).sock 0).state = .udp ∧
    ((queueWitness .udp 31).sock 0).dgq.length < 32 := by decide

theorem witness_SendOverflowRaisesTheModelFault :
    ((queueWitness .udp 32).sock 0).state = .udp ∧ ((queueWitness .udp 32).sock 0).dgq.length = 32 ∧
    (queueWitness .udp 32).fault = none ∧
    ({ queueWitness .udp 32 with fault := some .dgramTooLong } : State).fault = some .dgramTooLong := by decide

theorem witness_RecvCommitsTheAdvance :
    ((withSock 0 (inState .udp) []).sock 0).state = .udp ∧
    ((withSock 0 (inState .established) []).sock 0).state = .established ∧
    ((withSock 0 (inState .closeWait) []).sock 0).state = .closeWait := by decide

/-- Sockets 0 to 3 in Init (T4), in Udp with 8 bytes free (W8), and in Established (T3) and CloseWait with a full ring. -/
def noCandidate : State :=
  { State.reset with socks := ⟨inState .init, { inState .udp with rxAvail := 2040 },
      { inState .established with rxAvail := 2048 }, { inState .closeWait with rxAvail := 2048 }⟩ }

/-- One candidate of each kind: Udp with 9 bytes free, CloseWait with one, Listen, and Connecting. -/
def allCandidates : State :=
  { State.reset with
    socks := ⟨{ inState .udp with rxAvail := 2039 }, { inState .closeWait with rxAvail := 2047 }, inState .listen,
      inState .connecting⟩
    netIn := List.replicate 4 (.ready false false) }

theorem witness_TickWithNothingReadyOnlyAsks :
    (∀ n, (allCandidates.sock n).tickLive = false) ∧
    allCandidates.readyAsks = [.ready (some 4) false true, .ready (some 4) true false, .ready (some 4) true false,
      .ready (some 4) true false] ∧
    allCandidates.netIn = List.replicate allCandidates.readyAsks.length (.ready false false) ++ [] ∧
    (∀ n, (noCandidate.sock n).tickLive = false) ∧
    (∀ n, (noCandidate.sock n).fd = none ∨ ((noCandidate.sock n).writePending = false ∧
      ((noCandidate.sock n).state = .init ∨
        ((noCandidate.sock n).state = .udp ∧ 2048 < (noCandidate.sock n).rxAvail + 9) ∨
        (((noCandidate.sock n).state = .established ∨ (noCandidate.sock n).state = .closeWait) ∧
          2048 ≤ (noCandidate.sock n).rxAvail)))) ∧
    (∀ n, (State.reset.sock n).fd = none) := by decide

/-- V-TICK T20 in kind: sockets 1 and 2 Connecting; the first connect fails, the second completes. -/
def twoConnecting : State :=
  { State.reset with
    socks := (State.reset.socks.set 1 (inState .connecting)).set 2 { inState .connecting with fd := some 5 }
    netIn := [.ready false true, .fail, .ready false true, .ok] }

/-- Turns that go through, with sockets 1 and 2 open, and turns that the model fault of socket 1 ends. -/
theorem witness_TickIsFourTurnsOnTheNetworkSide :
    markLive twoConnecting = { twoConnecting with socks := (markLive twoConnecting).socks } ∧
    (∀ n, (markLive twoConnecting).sock n =
      { (twoConnecting.sock n) with tickLive := (twoConnecting.sock n).fd.isSome }) ∧
    (match turns [0, 1, 2, 3] (markLive twoConnecting) with
     | .ok t => decide ((t.sock 2).state = .established)
     | .error _ => false) = true ∧
    (match turns [0, 1, 2, 3] (markLive (withSock 1 { inState .udp with dgq := [2049#16], writePending := true }
        [.ready false true])) with
     | .ok _ => false
     | .error e => decide (e.fault = some .dgramTooLong)) = true ∧
    (State.reset.sock 0).tickLive = false ∧ State.reset.params.acceptUpdatesDest = false := by decide

/-- A tick's step of one socket that goes on, one that also stores a datagram, and one that the model fault ends. -/
theorem witness_SocketSubStepsLeaveOtherSockets :
    (match tickSocket 1 (withSock 1 { inState .udp with tickLive := true } [.ready false false]) with
     | .ok _ => true
     | .error _ => false) = true ∧
    (match tickSocket 1 (withSock 1 { inState .udp with tickLive := true }
        [.ready true false, .dgram [7#8] ⟨1#8, 2#8, 3#8, 4#8⟩ 5#16]) with
     | .ok t => decide (t.bufByte 0x6808 = 7#8)
     | .error _ => false) = true ∧
    (match tickSocket 1 (withSock 1
        { inState .udp with tickLive := true, dgq := [2049#16], writePending := true } [.ready false true]) with
     | .ok _ => false
     | .error _ => true) = true := by decide

def udpWitness (pending : Bool) (net : List NetAnswer) : State :=
  withSock 2 { inState .udp with rxAvail := 2039, writePending := pending, dgq := [2048#16] } net

/-- A Udp socket with exactly 9 bytes free: a datagram that fills them, one that is cut to one byte, the same with the
longest datagram flushed in the same tick, and a failed receive without and with a flush. -/
theorem witness_UdpDatagramArrivesBehindItsPseudoHeader :
    (udpWitness false [.ready true true, .dgram [9#8, 8#8] ⟨1#8, 2#8, 3#8, 4#8⟩ 5#16]).onlyOpen 2 4 ∧
    ((udpWitness false []).sock 2).state = .udp ∧ ((udpWitness false []).sock 2).rxAvail + 9 ≤ 2048 ∧
    ((udpWitness false []).sock 2).writePending = false ∧
    [9#8] = [9#8, 8#8].take (2040 - ((udpWitness false []).sock 2).rxAvail) ∧
    (udpWitness false [.ready true true, .dgram [9#8, 8#8] ⟨1#8, 2#8, 3#8, 4#8⟩ 5#16]).netIn =
      .ready true true :: .dgram [9#8, 8#8] ⟨1#8, 2#8, 3#8, 4#8⟩ 5#16 :: [] ∧
    (udpWitness true [.ready true true, .dgram [9#8] ⟨1#8, 2#8, 3#8, 4#8⟩ 5#16, .sent 2048]).onlyOpen 2 4 ∧
    ((udpWitness true []).sock 2).writePending = true ∧ ((udpWitness true []).sock 2).dgq = 2048#16 :: [] ∧
    (2048#16 : Word).toNat ≤ 2048 ∧
    (udpWitness true [.ready true true, .dgram [9#8] ⟨1#8, 2#8, 3#8, 4#8⟩ 5#16, .sent 2048]).netIn =
      .ready true true :: .dgram [9#8] ⟨1#8, 2#8, 3#8, 4#8⟩ 5#16 :: .sent (2048#16 : Word).toNat :: [] ∧
    (udpWitness true [.ready true false, .err]).onlyOpen 2 4 ∧
    (udpWitness true [.ready true false, .err]).netIn = .ready true false :: .err :: [] ∧
    (udpWitness true [.ready true true, .err, .sent 2048]).onlyOpen 2 4 ∧
    (udpWitness true [.ready true true, .err, .sent 2048]).netIn =
      .ready true true :: .err :: .sent (2048#16 : Word).toNat :: [] := by
  unfold State.onlyOpen; decide

def tcpWitness (st : SockState) (pending : Bool) (net : List NetAnswer) : State :=
  withSock 0 { inState st with rxAvail := 2047, writePending := pending, txRR := 0x07FE#16, txWR := 0x0803#16 } net

/-- Each state, with one byte free: a byte received, the same with a flush, and a failed receive without and with a
flush. -/
theorem witness_TcpDataArriveInTheRing :
    (tcpWitness .established false [.ready true true, .data [9#8]]).onlyOpen 0 4 ∧
    (tcpWitness .closeWait true [.ready true true, .data [9#8]]).onlyOpen 0 4 ∧
    ((tcpWitness .established false []).sock 0).state = .established ∧
    ((tcpWitness .established false []).sock 0).writePending = false ∧
    ((tcpWitness .closeWait true []).sock 0).state = .closeWait ∧ 1 ≤ [9#8].length ∧
    [9#8].length + ((tcpWitness .established false []).sock 0).rxAvail ≤ 2048 ∧
    (tcpWitness .established false [.ready true true, .data [9#8]]).netIn = .ready true true :: .data [9#8] :: [] ∧
    (tcpWitness .established true [.ready true true, .data [9#8], .sent 2]).onlyOpen 0 4 ∧
    ((tcpWitness .established true []).sock 0).writePending = true ∧
    2 = min (((tcpWitness .established true []).sock 0).txWR - ((tcpWitness .established true []).sock 0).txRR).toNat
      (2048 - ((tcpWitness .established true []).sock 0).txRR.toNat % 2048) ∧
    (tcpWitness .established true [.ready true true, .data [9#8], .sent 2]).netIn =
      .ready true true :: .data [9#8] :: .sent 2 :: [] ∧
    (tcpWitness .established true [.ready true false, .err]).onlyOpen 0 4 ∧
    ((tcpWitness .established true []).sock 0).rxAvail < 2048 ∧
    (tcpWitness .established true [.ready true false, .err]).netIn = .ready true false :: .err :: [] ∧
    (tcpWitness .established true [.ready true true, .err, .sent 2]).onlyOpen 0 4 ∧
    (tcpWitness .established true [.ready true true, .err, .sent 2]).netIn =
      .ready true true :: .err :: .sent 2 :: [] := by
  unfold State.onlyOpen; decide

theorem witness_EndOfStreamHalfClosesThenCloses :
    (tcpWitness .established true [.ready true true, .eof]).onlyOpen 0 4 ∧
    ((tcpWitness .established true []).sock 0).rxAvail < 2048 ∧
    ((tcpWitness .established true []).sock 0).state = .established ∧
    (tcpWitness .established true [.ready true true, .eof]).netIn = .ready true true :: .eof :: [] ∧
    (tcpWitness .closeWait true [.ready true true, .eof]).onlyOpen 0 4 ∧
    ((tcpWitness .closeWait true []).sock 0).rxAvail < 2048 ∧
    ((tcpWitness .closeWait true []).sock 0).state = .closeWait ∧
    (tcpWitness .closeWait true [.ready true true, .eof]).netIn = .ready true true :: .eof :: [] ∧
    (tcpWitness .closeWait true [.ready false true]).onlyOpen 0 4 ∧
    ((tcpWitness .closeWait true []).sock 0).writePending = true ∧
    (tcpWitness .closeWait true [.ready false true]).netIn = .ready false true :: [] := by
  unfold State.onlyOpen; decide

def flushWitness (lens : List Word) (net : List NetAnswer) : State :=
  withSock 0 { inState .udp with writePending := true, dgq := lens } (.ready false true :: net)

/-- The longest datagram, sent whole, one byte short and not at all; and an empty queue. -/
theorem witness_DatagramFlushSendsTheOldestOrKeepsIt :
    (flushWitness [2048#16] [.sent 2048]).onlyOpen 0 4 ∧ ((flushWitness [2048#16] [.sent 2048]).sock 0).state = .udp ∧
    ((flushWitness [2048#16] [.sent 2048]).sock 0).writePending = true ∧
    ((flushWitness [2048#16] [.sent 2048]).sock 0).dgq = 2048#16 :: [] ∧ (2048#16 : Word).toNat ≤ 2048 ∧
    (flushWitness [2048#16] [.sent 2048]).netIn = .ready false true :: .sent 2048 :: [] ∧
    (flushWitness [2048#16] [.sent 2047]).onlyOpen 0 4 ∧ 2047 < (2048#16 : Word).toNat ∧
    (flushWitness [2048#16] [.sent 2047]).netIn = .ready false true :: .sent 2047 :: [] ∧
    (flushWitness [2048#16] [.err]).onlyOpen 0 4 ∧
    (flushWitness [2048#16] [.err]).netIn = .ready false true :: .err :: [] ∧
    (flushWitness [] []).onlyOpen 0 4 ∧ ((flushWitness [] []).sock 0).dgq = [] ∧
    (flushWitness [] []).netIn = .ready false true :: [] := by
  unfold State.onlyOpen; decide

def overlongAndReadable : State :=
  { flushWitness [2049#16] [] with netIn := [.ready true true, .dgram [7#8] ⟨1#8, 2#8, 3#8, 4#8⟩ 5#16] }

/-- A length of 2049, the socket writable alone, then readable too with a datagram arriving first; and a tick that raises
the fault. -/
theorem witness_OverlongDatagramRaisesTheModelFault :
    (flushWitness [2049#16] []).onlyOpen 0 4 ∧ ((flushWitness [2049#16] []).sock 0).state = .udp ∧
    ((flushWitness [2049#16] []).sock 0).writePending = true ∧ ((flushWitness [2049#16] []).sock 0).dgq = 2049#16 :: [] ∧
    2048 < (2049#16 : Word).toNat ∧ (flushWitness [2049#16] []).fault = none ∧
    (flushWitness [2049#16] []).netIn = .ready false true :: [] ∧
    ((flushWitness [2049#16] []).sock 0).rxAvail + 9 ≤ 2048 ∧
    (overlongAndReadable.sock 0) = ((flushWitness [2049#16] []).sock 0) ∧
    overlongAndReadable.netIn = .ready true true :: .dgram [7#8] ⟨1#8, 2#8, 3#8, 4#8⟩ 5#16 :: [] ∧
    answers .tick overlongAndReadable (fun t => t.fault == some .dgramTooLong && (t.sock 0).rxAvail == 0) = true := by
  unfold State.onlyOpen; decide

def streamWitness (rr : Word) (net : List NetAnswer) : State :=
  withSock 0 { inState .established with writePending := true, txRR := rr, txWR := 0x0803#16 } (.ready false true :: net)

/-- V-TICK T16, T17, T18 and T19: a chunk that stops at the ring end, the last chunk, nothing promised, and a failed send. -/
theorem witness_StreamFlushSendsWithoutStraddling :
    (streamWitness 0x07FE#16 [.sent 2]).onlyOpen 0 4 ∧ ((streamWitness 0x07FE#16 []).sock 0).state = .established ∧
    ((streamWitness 0x07FE#16 []).sock 0).writePending = true ∧
    2 = min (((streamWitness 0x07FE#16 []).sock 0).txWR - ((streamWitness 0x07FE#16 []).sock 0).txRR).toNat
      (2048 - ((streamWitness 0x07FE#16 []).sock 0).txRR.toNat % 2048) ∧
    ((streamWitness 0x07FE#16 []).sock 0).txRR + BitVec.ofNat 16 2 ≠ ((streamWitness 0x07FE#16 []).sock 0).txWR ∧
    (streamWitness 0x07FE#16 [.sent 2]).netIn = .ready false true :: .sent 2 :: [] ∧
    (streamWitness 0x0800#16 [.sent 3]).onlyOpen 0 4 ∧
    3 = min (((streamWitness 0x0800#16 []).sock 0).txWR - ((streamWitness 0x0800#16 []).sock 0).txRR).toNat
      (2048 - ((streamWitness 0x0800#16 []).sock 0).txRR.toNat % 2048) ∧
    ((streamWitness 0x0800#16 []).sock 0).txRR + BitVec.ofNat 16 3 = ((streamWitness 0x0800#16 []).sock 0).txWR ∧
    (streamWitness 0x0800#16 [.sent 3]).netIn = .ready false true :: .sent 3 :: [] ∧
    (streamWitness 0x0800#16 [.err]).onlyOpen 0 4 ∧
    (streamWitness 0x0800#16 [.err]).netIn = .ready false true :: .err :: [] ∧
    (streamWitness 0x0803#16 []).onlyOpen 0 4 ∧
    ((streamWitness 0x0803#16 []).sock 0).txRR = ((streamWitness 0x0803#16 []).sock 0).txWR ∧
    (streamWitness 0x0803#16 []).netIn = .ready false true :: [] := by
  unfold State.onlyOpen; decide

def connectingWitness (net : List NetAnswer) : State := withSock 1 (inState .connecting) net

theorem witness_ConnectCompletionSetsConEitherWay :
    (connectingWitness [.ready false true, .ok]).onlyOpen 1 4 ∧
    ((connectingWitness [.ready false true, .ok]).sock 1).state = .connecting ∧
    (connectingWitness [.ready false true, .ok]).netIn = .ready false true :: .ok :: [] ∧
    (connectingWitness [.ready false true, .fail]).onlyOpen 1 4 ∧
    (connectingWitness [.ready false true, .fail]).netIn = .ready false true :: .fail :: [] ∧
    (connectingWitness [.ready false false]).onlyOpen 1 4 ∧
    (connectingWitness [.ready false false]).netIn = .ready false false :: [] ∧
    (1 : SockId) < 2 ∧ (twoConnecting.sock 1).fd = some 4 ∧ (twoConnecting.sock 2).fd = some 5 ∧
    (∀ i, i ≠ 1 → i ≠ 2 → (twoConnecting.sock i).fd = none) ∧ (∀ i, (twoConnecting.sock i).tickLive = false) ∧
    (twoConnecting.sock 1).state = .connecting ∧ (twoConnecting.sock 2).state = .connecting ∧
    twoConnecting.netIn = .ready false true :: .fail :: .ready false true :: .ok :: [] := by
  unfold State.onlyOpen; decide

def listenWitness (a : NetAnswer) : State := withSock 1 (inState .listen) [.ready true false, a]

theorem witness_AcceptReplacesTheListeningDescriptor :
    (listenWitness (.accepted 5 ⟨127#8, 0#8, 0#8, 1#8⟩ 7#16)).onlyOpen 1 4 ∧
    ((listenWitness (.accepted 5 ⟨127#8, 0#8, 0#8, 1#8⟩ 7#16)).sock 1).state = .listen ∧
    ((listenWitness (.accepted 5 ⟨127#8, 0#8, 0#8, 1#8⟩ 7#16)).sock 1).writePending = false ∧
    (listenWitness (.accepted 5 ⟨127#8, 0#8, 0#8, 1#8⟩ 7#16)).netIn =
      .ready true false :: .accepted 5 ⟨127#8, 0#8, 0#8, 1#8⟩ 7#16 :: [] ∧
    (5 : Fd) ≠ 4 ∧ (listenWitness .fail).onlyOpen 1 4 ∧ (listenWitness .fail).netIn = .ready true false :: .fail :: [] := by
  unfold State.onlyOpen; decide

def invWitness : State := withSock 1 (inState .udp) [.ready false false]

theorem invWitness_fd : ∀ n : SockId, (invWitness.sock n).fd ≠ none → n = 1 := by decide

/-- The invariant holds of a state with an open socket, and a step from there answers a next state. -/
theorem witness_StepKeepsTheInvariant :
    (invWitness.withNext (.host 0x2000000#32)).Inv ∧ steps (.host 0x2000000#32) invWitness (fun _ => true) = true := by
  refine ⟨⟨by decide, by decide, by decide, ?_⟩, by decide⟩
  intro n m f hn hm
  rw [invWitness_fd n (fun h0 => nomatch h0.symm.trans hn), invWitness_fd m (fun h0 => nomatch h0.symm.trans hm)]

theorem witness_DescriptorExactlyWhenOpen :
    Reachable Config.defaultParams
      (({ State.reset with params := Config.defaultParams } : State).supply [.host 0x2000000#32] [.ok]) :=
  .supplied _ _ _ .powerUp

theorem witness_TimeoutBitAlwaysReadsZero :
    (∀ n, (State.reset.sock n).ir.getLsbD 3 = false) ∧
    steps (.host 0x2000000#32) State.reset (fun _ => true) = true := by decide

theorem witness_ModelFaultIsSticky :
    ({ State.reset with fault := some .dgqOverflow } : State).fault = some .dgqOverflow ∧
    steps (.host 0x3000000#32) { State.reset with fault := some .dgqOverflow }
      (fun t => t.fault == some .dgqOverflow) = true := by decide

/-- Addresses next to the excluded ones, in direct mode and as the target of the data register. -/
theorem witness_OtherBusTransactionsReachNoNetwork :
    answers (.hrdDirect 0x0401#16) State.reset (fun _ => true) = true ∧
    answers (.hrdMrInd 0#14) State.reset (fun _ => true) = true ∧
    answers (.hrdIdmAr0 0#14) State.reset (fun _ => true) = true ∧
    answers (.hrdIdmAr1 0#14) State.reset (fun _ => true) = true ∧
    answers (.hrdIdmDr 0#14) State.reset (fun _ => true) = true ∧
    (∀ n : SockId, (0x0406#16 : Word) ≠ sockAddr n 0x01#8 ∧ (0x0406#16 : Word) ≠ sockAddr n 0x04#8 ∧
      (0x0406#16 : Word) ≠ sockAddr n 0x05#8) ∧
    (¬ ((0x0000#16 : Word) = 0x0000#16 ∧ (0x7F#8 : Byte).getLsbD 7 = true)) ∧
    answers (.hwrDirect 0x0406#16 0xFF#8) State.reset (fun _ => true) = true ∧
    answers (.hwrMrInd 0#14 0x7F#8) State.reset (fun _ => true) = true ∧
    answers (.hwrIdmAr0 0#14 0xFF#8) State.reset (fun _ => true) = true ∧
    answers (.hwrIdmAr1 0#14 0xFF#8) State.reset (fun _ => true) = true ∧
    answers (.hwrIdmDr 0#14 0xFF#8) { State.reset with idmAr := 0x0406#16 } (fun _ => true) = true := by decide

end Sys2Proof.Tests
end

section
/-! SUPPORT. The invariant of the block, clause by clause, while a tick is under way. `State.InvDuring l` is the
invariant with the sockets of `l` still to have their turn; with no turn left it is `State.Inv` (`inv_iff`). Each
shared operation keeps it, and each turn takes its socket off the list. -/

namespace Sys2Proof.Machine

/-! ### One socket -/

/-- The clauses of `Socket.wf`, but for `Socket.idle`, which does not hold within a tick. -/
structure Socket.Sound (p : Params) (k : Socket) : Prop where
  fd : k.fd.isSome = true ↔ k.state ≠ .closed
  mode : k.mr = 0x00#8 ∨ k.mr ∈ p.snMrAccept
  bind : k.bound = true → k.fd.isSome = true
  writes : k.bwc ≤ 2
  rx : k.rxAvail ≤ bufSize
  queue : k.dgq.length ≤ dgqCap
  queued : k.dgq = [] ∨ k.state = .udp
  pending : k.writePending = true → k.state = .established ∨ k.state = .closeWait ∨ k.state = .udp
  timeout : k.ir[3] = false

theorem Socket.fdOk_iff (k : Socket) : k.fdOk = true ↔ (k.fd.isSome = true ↔ k.state ≠ .closed) := by
  rw [Socket.fdOk, beq_iff_eq, Bool.eq_iff_iff, bne_iff_ne]

theorem Socket.pendingOk_iff (k : Socket) :
    k.pendingOk = true ↔ (k.writePending = true → k.state = .established ∨ k.state = .closeWait ∨ k.state = .udp) := by
  cases hw : k.writePending <;> simp [Socket.pendingOk, hw, or_assoc]

theorem Socket.wf_iff (p : Params) (k : Socket) : k.wf p = true ↔ k.Sound p ∧ k.tickLive = false := by
  have hmode : k.modeOk p = true ↔ k.mr = 0x00#8 ∨ k.mr ∈ p.snMrAccept := by simp [Socket.modeOk]
  have hbind : k.bindOk = true ↔ (k.bound = true → k.fd.isSome = true) ∧ k.bwc ≤ 2 := by
    cases hb : k.bound <;> simp [Socket.bindOk, hb]
  have hrx : k.rxOk = true ↔ k.rxAvail ≤ bufSize := decide_eq_true_iff
  have hdgq : k.dgqOk = true ↔ k.dgq.length ≤ dgqCap ∧ (k.dgq = [] ∨ k.state = .udp) := by simp [Socket.dgqOk]
  have htimeout : k.timeoutOk = true ↔ k.ir[3] = false := by simp [Socket.timeoutOk]
  have hidle : k.idle = true ↔ k.tickLive = false := by simp [Socket.idle]
  simp only [Socket.wf, Bool.and_eq_true, k.fdOk_iff, k.pendingOk_iff, hmode, hbind, hrx, hdgq, htimeout, hidle]
  constructor
  · rintro ⟨⟨⟨⟨⟨⟨⟨hfd, hm⟩, hb, hw⟩, hr⟩, hq, hu⟩, hp⟩, ht⟩, hi⟩
    exact ⟨⟨hfd, hm, hb, hw, hr, hq, hu, hp, ht⟩, hi⟩
  · rintro ⟨h, hi⟩
    exact ⟨⟨⟨⟨⟨⟨⟨h.fd, h.mode⟩, h.bind, h.writes⟩, h.rx⟩, h.queue, h.queued⟩, h.pending⟩, h.timeout⟩, hi⟩

namespace Socket.Sound

variable {p : Params} {k : Socket}

theorem isSome_of_state (h : k.Sound p) {st : SockState} (hs : k.state = st) (hst : st ≠ .closed) :
    k.fd.isSome = true :=
  h.fd.mpr (hs ▸ hst)

/-- Only a Udp socket queues datagram lengths. -/
theorem dgq_eq_nil (h : k.Sound p) (hu : k.state ≠ .udp) : k.dgq = [] := h.queued.resolve_right hu

/-- An interrupt bit other than TIMEOUT. -/
theorem raise (h : k.Sound p) {b : IrBit} (hb : b ≠ .timeout) : (k.raise b).Sound p where
  __ := h
  timeout := by cases b <;> simp_all [Socket.raise, irMask, h.timeout]

theorem released (h : k.Sound p) : k.released.Sound p where
  fd := by simp [Socket.released]
  mode := h.mode
  bind := nofun
  writes := Nat.zero_le 2
  rx := h.rx
  queue := Nat.zero_le dgqCap
  queued := .inl rfl
  pending := nofun
  timeout := h.timeout

/-- A new state for an open socket that queues no datagrams, if a pending flush is allowed there too. -/
theorem withState (h : k.Sound p) {st : SockState} (ho : k.state ≠ .closed) (hu : k.state ≠ .udp) (hst : st ≠ .closed)
    (hp : k.writePending = true → st = .established ∨ st = .closeWait ∨ st = .udp) :
    { k with state := st }.Sound p where
  __ := h
  fd := iff_of_true (h.fd.mpr ho) hst
  queued := .inl (h.dgq_eq_nil hu)
  pending := hp

/-- A socket in a state that takes no SEND has no flush pending. -/
theorem not_pending (h : k.Sound p) {st : SockState} (hs : k.state = st) (he : st ≠ .established)
    (hc : st ≠ .closeWait) (hu : st ≠ .udp) : k.writePending = false := by
  subst hs
  exact Bool.eq_false_iff.mpr fun hw => (h.pending hw).elim he fun hcu => hcu.elim hc hu

/-- LISTEN and CONNECT take an Init socket to any open state (R174, R177). -/
theorem ofInit (h : k.Sound p) (hs : k.state = .init) {st : SockState} (hst : st ≠ .closed) :
    { k with state := st }.Sound p :=
  h.withState (by simp [hs]) (by simp [hs]) hst fun hw => absurd hw (by simp [h.not_pending hs])

theorem opened (h : k.Sound p) (hs : k.state = .closed) (fd : Fd) {next : SockState} (hn : next ≠ .closed) :
    (k.opened fd next).Sound p where
  __ := h
  fd := iff_of_true rfl hn
  bind := fun _ => rfl
  queued := .inl (h.dgq_eq_nil (by simp [hs]))
  pending := fun hw => absurd hw (by simp [Socket.opened, h.not_pending hs])

theorem accepted (h : k.Sound p) (q : Params) (hs : k.state = .listen) (fd : Fd) (ip : Ip4) (port : Word) :
    (k.accepted q fd ip port).Sound p where
  __ := h
  fd := iff_of_true rfl nofun
  bind := fun _ => rfl
  queued := .inl (h.dgq_eq_nil (by simp [hs]))
  pending := fun _ => .inl rfl
  timeout := by
    cases hc : q.acceptSetsCon <;> simp [Socket.accepted, hc, irMask, h.timeout]

theorem portWritten (h : k.Sound p) (w : Word) : (k.portWritten w).Sound p where
  __ := h
  writes := by
    have hw := h.writes
    simp only [Socket.portWritten]
    split <;> omega

theorem modeStored (h : k.Sound p) (v : Byte) : { k with mr := modeStored p v }.Sound p where
  __ := h
  mode := by
    simp only [Machine.modeStored]
    split
    · next hv => exact .inr (by simpa using hv)
    · exact .inl rfl

theorem clearIr (h : k.Sound p) (v : Byte) : { k with ir := clearIr k.ir v }.Sound p where
  __ := h
  timeout := by simp [Machine.clearIr, h.timeout]

theorem datagramQueued (h : k.Sound p) (hs : k.state = .udp) (hq : sendOverflows k = false) :
    k.datagramQueued.Sound p where
  __ := h
  queue := by
    simp only [sendOverflows, hs, beq_self_eq_true, Bool.true_and, decide_eq_false_iff_not] at hq
    simp only [Socket.datagramQueued, List.length_append, List.length_singleton]
    omega
  queued := .inr hs
  pending := fun _ => .inr (.inr hs)

theorem received (h : k.Sound p) : k.received.Sound p := by
  have hrx : recvLeft k ≤ bufSize := (Nat.sub_le _ _).trans h.rx
  unfold Socket.received
  split
  · exact { h.raise (b := .recv) nofun with rx := hrx }
  · exact { h with rx := hrx }

theorem datagramSent (h : k.Sound p) {len : Word} {rest : List Word} (hq : k.dgq = len :: rest) (sent : Word) :
    (k.datagramSent sent rest).Sound p where
  __ := h.raise (b := .sendok) nofun
  queue := by
    have hl := h.queue
    rw [hq] at hl
    exact (Nat.le_succ _).trans hl
  queued := .inr (h.queued.resolve_left (by simp [hq]))
  pending := by
    intro hw
    simp only [Socket.datagramSent] at hw
    split at hw
    · cases hw
    · exact h.pending hw

/-- A flush that ends leaves nothing pending. -/
theorem withoutPending (h : k.Sound p) : { k with writePending := false }.Sound p where
  __ := h
  pending := nofun

theorem shortSend (h : k.Sound p) (q : Params) : (k.shortSend q).Sound p := by
  unfold Socket.shortSend
  split
  · exact h.withoutPending
  · exact h

theorem flushDone (h : k.Sound p) : k.flushDone.Sound p := by
  unfold Socket.flushDone
  split
  · exact (h.raise (b := .sendok) nofun).withoutPending
  · exact h

/-- R35, R217: as many bytes as there is free space may be added. -/
theorem rxAvail_add_le (h : k.Sound p) {len : Nat} (hl : len ≤ rxFree k) : k.rxAvail + len ≤ bufSize := by
  have := h.rx
  simp only [rxFree] at hl
  omega

end Socket.Sound

theorem Socket.reset_sound (p : Params) : Socket.reset.Sound p where
  fd := by simp [Socket.reset]
  mode := .inl rfl
  bind := nofun
  writes := Nat.zero_le 2
  rx := Nat.zero_le bufSize
  queue := Nat.zero_le dgqCap
  queued := .inl rfl
  pending := nofun
  timeout := rfl

/-! ### The state -/

@[simp] theorem closeFd_params (s : State) (fd : Option Fd) : (s.closeFd fd).params = s.params := by
  cases fd <;> rfl

/-- The invariant while the sockets of `l` are still to have their turn of a tick (R241). -/
structure State.InvDuring (l : List SockId) (s : State) : Prop where
  sockets : ∀ n, (s.sock n).Sound s.params
  live : ∀ n, (s.sock n).tickLive = true → n ∈ l
  modeBit : rstBit s.mr = false
  memory : Memory.wf s.mem = true
  descriptors : s.fdsOk

/-- Between steps no turn is left. -/
theorem State.inv_iff (s : State) : s.Inv ↔ s.InvDuring [] := by
  constructor
  · intro h
    have hs := fun n => ((s.sock n).wf_iff s.params).mp (h.sockets n)
    exact ⟨fun n => (hs n).1, fun n hl => absurd hl (by simp [(hs n).2]), h.modeBit, h.memory, h.descriptors⟩
  · intro h
    refine ⟨fun n => ((s.sock n).wf_iff s.params).mpr ⟨h.sockets n, ?_⟩, h.modeBit, h.memory, h.descriptors⟩
    exact Bool.eq_false_iff.mpr fun hl => List.not_mem_nil (h.live n hl)

namespace State.InvDuring

variable {l : List SockId} {s : State}

/-- The invariant speaks of the sockets, the open parameters, MR and the buffers only. -/
theorem frame {t : State} (h : s.InvDuring l) (hk : t.socks = s.socks) (hp : t.params = s.params) (hr : t.mr = s.mr)
    (hm : t.mem = s.mem) : t.InvDuring l := by
  have hsock : ∀ n, t.sock n = s.sock n := fun n => congrArg (Quad.get · n) hk
  refine ⟨fun n => ?_, fun n hl => h.live n (hsock n ▸ hl), hr ▸ h.modeBit, hm ▸ h.memory, fun n m f hn hm => ?_⟩
  · rw [hsock n, hp]; exact h.sockets n
  · exact h.descriptors n m f (hsock n ▸ hn) (hsock m ▸ hm)

theorem after_asked (h : s.InvDuring l) (q : NetRequest) : (s.asked q).InvDuring l := h.frame rfl rfl rfl rfl

theorem after_answerRead (h : s.InvDuring l) (v : Byte) : (answerRead v s).InvDuring l := h.frame rfl rfl rfl rfl

theorem after_answerNone (h : s.InvDuring l) : (answerNone s).InvDuring l := h.frame rfl rfl rfl rfl

theorem after_taken (h : s.InvDuring l) : s.taken.InvDuring l := h.frame rfl rfl rfl rfl

theorem after_supply (h : s.InvDuring l) (bus : List Transaction) (net : List NetAnswer) :
    (s.supply bus net).InvDuring l := h.frame rfl rfl rfl rfl

theorem after_closeFd (h : s.InvDuring l) (fd : Option Fd) : (s.closeFd fd).InvDuring l := by
  rw [closeFd_closing]; exact h.frame rfl rfl rfl rfl

theorem after_raiseFault (h : s.InvDuring l) (k : FaultKind) : (raiseFault k s).InvDuring l := by
  rw [raiseFault_eq]; exact h.frame rfl rfl rfl rfl

theorem after_autoInc (h : s.InvDuring l) (ai ended : Bool) : (autoInc ai ended s).InvDuring l := by
  rw [autoInc_eq]; exact h.frame rfl rfl rfl rfl

theorem after_setBuf (h : s.InvDuring l) {a : Nat} (v : Byte) (hlo : bufLo ≤ a) (hhi : a < bufHi) :
    (s.setBuf a v).InvDuring l :=
  { h with memory := setBuf_wf s a v hlo hhi h.memory }

theorem after_rxWrite (h : s.InvDuring l) (n : SockId) (o : Nat) (b : List Byte) :
    (rxWrite n o b s).InvDuring l := by
  have hwf := rxWrite_wf n o b s h.memory
  obtain ⟨m, hm⟩ := rxWrite_eq n o b s
  rw [hm] at hwf ⊢
  exact { h with memory := hwf }

/-- A socket is replaced by a sound one, whose descriptor, if it has any, is the old one or held by no socket. -/
theorem after_setSock (h : s.InvDuring l) {n : SockId} {k : Socket} (hk : k.Sound s.params)
    (hl : k.tickLive = true → n ∈ l)
    (hfd : ∀ f, k.fd = some f → (s.sock n).fd = some f ∨ ∀ m, (s.sock m).fd ≠ some f) :
    (s.setSock n k).InvDuring l := by
  refine ⟨fun m => ?_, fun m hm => ?_, h.modeBit, h.memory, fun a b f ha hb => ?_⟩
  · rw [sock_setSock]
    split
    · exact hk
    · exact h.sockets m
  · rw [sock_setSock] at hm
    split at hm
    · next heq => exact heq ▸ hl hm
    · exact h.live m hm
  · have hother : ∀ m, (s.sock m).fd = some f → k.fd = some f → m = n := fun m hmf hkf =>
      (hfd f hkf).elim (h.descriptors m n f hmf) fun hnone => absurd hmf (hnone m)
    rw [sock_setSock] at ha hb
    split at ha <;> split at hb
    · next han hbn => exact han.trans hbn.symm
    · next han _ => exact han.trans (hother b hb ha).symm
    · next _ hbn => exact (hother a ha hb).trans hbn.symm
    · exact h.descriptors a b f ha hb

/-- A socket is replaced by a sound one with the same descriptor and the same mark. -/
theorem after_update (h : s.InvDuring l) {n : SockId} {k : Socket} (hk : k.Sound s.params)
    (hfd : k.fd = (s.sock n).fd) (hl : k.tickLive = (s.sock n).tickLive) : (s.setSock n k).InvDuring l :=
  h.after_setSock hk (fun ht => h.live n (hl ▸ ht)) fun _ hf => .inl (hfd ▸ hf)

theorem after_raiseIr (h : s.InvDuring l) (n : SockId) {b : IrBit} (hb : b ≠ .timeout) :
    (s.raiseIr n b).InvDuring l :=
  h.after_update ((h.sockets n).raise hb) rfl rfl

/-! ### The shared socket procedures -/

theorem after_release (h : s.InvDuring l) (n : SockId) : (release n s).InvDuring l :=
  (h.after_closeFd _).after_setSock (by simpa using (h.sockets n).released) nofun nofun

theorem after_disconnect (h : s.InvDuring l) (n : SockId) : (disconnect n s).InvDuring l :=
  (h.after_raiseIr n (b := .discon) nofun).after_release n

theorem after_tryBind (h : s.InvDuring l) {n : SockId} (hfd : (s.sock n).fd.isSome = true) :
    (tryBind n s).InvDuring l := by
  obtain ⟨-, -, heq⟩ | ⟨-, -, -, heq⟩ | ⟨-, -, -, heq⟩ := tryBind_cases n s <;> rw [heq]
  · exact h
  · exact (h.after_asked _).after_update { h.sockets n with bind := fun _ => hfd } rfl rfl
  · exact (h.after_asked _).after_disconnect n

end State.InvDuring

/-- A bind that succeeds changes nothing of the socket but `bound`. -/
theorem tryBind_sock_of_bindOk {n : SockId} {s : State} (hb : bindOk n s = true) :
    (tryBind n s).sock n = { (s.sock n) with bound := true } := by
  obtain ⟨hbd, -, heq⟩ | ⟨-, -, -, heq⟩ | ⟨-, -, hno, -⟩ := tryBind_cases n s
  · rw [heq, ← hbd]
  · rw [heq, sock_setSock_same]
  · simp [hb] at hno

namespace State.InvDuring

variable {l : List SockId} {s : State}

/-! ### Commands and port writes -/

theorem after_openSocket (h : s.InvDuring l) (kind : SockKind) {next : SockState} (hn : next ≠ .closed) {n : SockId}
    (hs : (s.sock n).state = .closed) : (openSocket kind next n s).InvDuring l := by
  unfold openSocket
  split
  · next fd hfd =>
    have hfresh := ((answerSocket_some s _ fd).mp hfd).2
    have hopen : ((s.asked (.socket kind)).setSock n ((s.sock n).opened fd next)).InvDuring l := by
      refine (h.after_asked _).after_setSock ((h.sockets n).opened hs fd hn) (h.live n) fun f hf => .inr ?_
      cases hf
      exact hfresh
    simp only
    split
    · exact hopen.after_tryBind (by simp [Socket.opened])
    · exact hopen
  · exact h.after_asked _

theorem after_listenBound (h : s.InvDuring l) {n : SockId} (hs : (s.sock n).state = .init) :
    (listenBound n s).InvDuring l := by
  unfold listenBound
  split
  · exact (h.after_asked _).after_update ((h.sockets n).ofInit hs nofun) rfl rfl
  · exact h.after_asked _

theorem after_connectBound (h : s.InvDuring l) {n : SockId} (hs : (s.sock n).state = .init) :
    (connectBound n s).InvDuring l := by
  unfold connectBound
  split
  · have hest := (h.sockets n).ofInit hs (st := .established) nofun
    exact (h.after_asked _).after_update (hest.raise (b := .con) nofun) rfl rfl
  · exact (h.after_asked _).after_update ((h.sockets n).ofInit hs nofun) rfl rfl
  · exact (h.after_asked _).after_disconnect n

theorem after_writePort (h : s.InvDuring l) (n : SockId) (w : Word) : (writePort n w s).InvDuring l := by
  have hw : (s.setSock n ((s.sock n).portWritten w)).InvDuring l :=
    h.after_update ((h.sockets n).portWritten w) rfl rfl
  unfold writePort
  split
  · next harmed =>
    have hfd : (s.sock n).fd.isSome = true := by
      simp only [Socket.bindArmed, Bool.and_eq_true] at harmed
      exact harmed.1.2
    exact hw.after_tryBind (by simpa [Socket.portWritten] using hfd)
  · exact hw

theorem after_udpSend (h : s.InvDuring l) {n : SockId} (hs : (s.sock n).state = .udp) : (udpSend n s).InvDuring l := by
  unfold udpSend
  split
  · exact h.after_raiseFault _
  · next hq => exact h.after_update ((h.sockets n).datagramQueued hs (Bool.eq_false_iff.mpr hq)) rfl rfl

/-! ### Read sub-steps -/

theorem after_rxAppend (h : s.InvDuring l) {n : SockId} {b : List Byte} (hb : b.length ≤ rxFree (s.sock n)) :
    (rxAppend n b s).InvDuring l :=
  (h.after_rxWrite n _ b).after_update (by
    have hp : (rxWrite n (rxPos (s.sock n)) b s).params = s.params := by
      obtain ⟨m, hm⟩ := rxWrite_eq n (rxPos (s.sock n)) b s
      rw [hm]
    rw [hp]
    exact { h.sockets n with rx := (h.sockets n).rxAvail_add_le hb }) (by simp) (by simp)

theorem after_acceptStep (h : s.InvDuring l) {n : SockId} (hs : (s.sock n).state = .listen) :
    (acceptStep n s).InvDuring l := by
  unfold acceptStep
  split
  · next fd ip port ha =>
    have hfresh := ((answerAccept_some s _ fd ip port).mp ha).2
    refine ((h.after_asked _).after_closeFd _).after_setSock
      (by simpa using (h.sockets n).accepted s.params hs fd ip port) nofun fun f hf => .inr ?_
    cases hf
    simpa using hfresh
  · exact h.after_asked _

theorem after_eofStep (h : s.InvDuring l) (n : SockId) : (eofStep n s).InvDuring l := by
  unfold eofStep
  split
  · next hs =>
    exact h.after_update ((h.sockets n).withState (by simp [hs]) (by simp [hs]) nofun fun _ => .inr (.inl rfl)) rfl rfl
  · exact h.after_disconnect n

theorem after_tcpRecvStep (h : s.InvDuring l) (n : SockId) : (tcpRecvStep n s).InvDuring l := by
  unfold tcpRecvStep
  split
  · next b hb =>
    exact ((h.after_asked _).after_rxAppend (answerRecv_data _ _ b hb).2).after_raiseIr n nofun
  · exact (h.after_asked _).after_eofStep n
  · exact h.after_asked _

/-- The pseudo-header and a payload within the limit fill no more than the free space (R242, R252). -/
theorem after_udpRecvStep (h : s.InvDuring l) {n : SockId} (hfree : 9 ≤ rxFree (s.sock n)) :
    (udpRecvStep n s).InvDuring l := by
  unfold udpRecvStep
  split
  · next d hd =>
    have hpay : d.payload.length ≤ rxFree (s.sock n) - 8 := answerRecvFrom_length _ _ d hd
    have hlen : (dgramBytes d).length ≤ rxFree (s.sock n) := by
      simp only [dgramBytes, pseudoHeader, List.length_append, List.length_cons, List.length_nil]
      omega
    exact ((h.after_asked _).after_rxAppend hlen).after_raiseIr n nofun
  · exact h.after_asked _

theorem after_readStep (h : s.InvDuring l) {n : SockId} (hr : wantRead (s.sock n) = true) :
    (readStep n s).InvDuring l := by
  unfold readStep
  split
  · next hs => exact h.after_acceptStep hs
  · exact h.after_tcpRecvStep n
  · exact h.after_tcpRecvStep n
  · next hs => exact h.after_udpRecvStep (by simpa [wantRead, hs] using hr)
  · exact h
  · exact h
  · exact h

/-! ### Write sub-steps -/

theorem after_udpFlush {t : State} (h : s.InvDuring l) {n : SockId} (ht : udpFlush n s = .ok t) : t.InvDuring l := by
  unfold udpFlush at ht
  split at ht
  · cases ht
    exact h.after_update (h.sockets n).withoutPending rfl rfl
  · next len rest hq =>
    split_ifs at ht <;> cases ht
    · exact (h.after_asked _).after_update ((h.sockets n).datagramSent hq len) rfl rfl
    · refine (h.after_asked _).after_update ((h.sockets n).shortSend s.params) ?_ ?_ <;>
        cases hp : s.params.udpShortSend <;> simp [Socket.shortSend, hp]

theorem after_tcpSend (h : s.InvDuring l) (n : SockId) : (tcpSend n s).InvDuring l := by
  unfold tcpSend
  split
  · exact h
  · split
    · exact (h.after_asked _).after_update { h.sockets n with } rfl rfl
    · exact h.after_asked _

theorem after_tcpFlush (h : s.InvDuring l) (n : SockId) : (tcpFlush n s).InvDuring l := by
  refine (h.after_tcpSend n).after_update ((h.after_tcpSend n).sockets n).flushDone ?_ ?_ <;>
    unfold Socket.flushDone <;> split <;> rfl

theorem after_connectDone (h : s.InvDuring l) {n : SockId} (hs : (s.sock n).state = .connecting) :
    (connectDone n s).InvDuring l := by
  unfold connectDone
  split
  · have hest : { (s.sock n) with state := .established }.Sound s.params :=
      (h.sockets n).withState (by simp [hs]) (by simp [hs]) nofun fun _ => .inl rfl
    exact (h.after_asked _).after_update (hest.raise (b := .con) nofun) rfl rfl
  · exact ((h.after_asked _).after_raiseIr n (b := .con) nofun).after_release n

theorem after_writeStep {t : State} (h : s.InvDuring l) {n : SockId} (ht : writeStep n s = .ok t) : t.InvDuring l := by
  unfold writeStep at ht
  split at ht
  · next hs => cases ht; exact h.after_connectDone hs
  · split at ht
    · exact h.after_udpFlush ht
    · cases ht; exact h
  · split at ht <;> cases ht
    · exact h.after_tcpFlush n
    · exact h
  · cases ht; exact h
  · cases ht; exact h
  · cases ht; exact h
  · cases ht; exact h

/-! ### The tick -/

theorem after_serveSocket {t : State} (h : s.InvDuring l) {n : SockId} (ht : serveSocket n s = .ok t) :
    t.InvDuring l := by
  have hread : (readPart n (readiness n s).1 (s.asked (readyRequest n s))).InvDuring l := by
    unfold readPart
    split
    · next hr => exact (h.after_asked _).after_readStep ((answerReady_wanted _ _ _).1 hr)
    · exact h.after_asked _
  unfold serveSocket writePart at ht
  split_ifs at ht
  · exact hread.after_writeStep ht
  · cases ht; exact hread
  · cases ht; exact h

/-- A socket whose mark is gone is off the list. -/
theorem tail_of_dead {n : SockId} (h : s.InvDuring (n :: l)) (hn : (s.sock n).tickLive = false) : s.InvDuring l where
  __ := h
  live := fun m hm => (List.mem_cons.mp (h.live m hm)).resolve_left fun heq => by simp [heq, hn] at hm

/-- One turn of the tick takes its socket off the list. -/
theorem after_tickSocket {t : State} {n : SockId} (h : s.InvDuring (n :: l)) (ht : tickSocket n s = .ok t) :
    t.InvDuring l := by
  unfold tickSocket at ht
  split at ht
  · split at ht
    · next u hu =>
      cases ht
      have hserved := h.after_serveSocket hu
      have hend : (endSocket n u).InvDuring (n :: l) :=
        hserved.after_setSock { hserved.sockets n with } nofun fun _ hf => .inl hf
      exact hend.tail_of_dead (by simp [endSocket])
    · cases ht
  · next hdead =>
    cases ht
    exact h.tail_of_dead (Bool.eq_false_iff.mpr hdead)

/-- When every socket of the list has had its turn, the invariant holds again. -/
theorem after_turns {t : State} (h : s.InvDuring l) (ht : turns l s = .ok t) : t.InvDuring [] := by
  induction l generalizing s with
  | nil => cases ht; exact h
  | cons n rest ih =>
    simp only [turns] at ht
    split at ht
    · next u hu => exact ih (h.after_tickSocket hu) ht
    · cases ht

theorem after_markLive (h : s.InvDuring []) : (markLive s).InvDuring [0, 1, 2, 3] := by
  refine ⟨fun n => ?_, fun n _ => ?_, h.modeBit, h.memory, fun n m f hn hm => ?_⟩
  · rw [markLive_sock]
    exact { h.sockets n with }
  · exact (by decide : ∀ m : SockId, m ∈ [0, 1, 2, 3]) n
  · rw [markLive_sock] at hn hm
    exact h.descriptors n m f hn hm

/-- R241, R286: a tick that goes through serves all four sockets, and one that faults changes the fault flag alone. -/
theorem after_tickAll (h : s.InvDuring []) : (tickAll s).InvDuring [] := by
  obtain ⟨t, ht, heq⟩ | ⟨t, -, heq⟩ := tickAll_cases s <;> rw [heq]
  · rw [tickSockets_turns] at ht
    exact h.after_markLive.after_turns ht
  · exact h.frame rfl rfl rfl rfl

end State.InvDuring

/-! ### The resets -/

theorem resetFields_sock (s : State) (n : SockId) : (resetFields s).sock n = Socket.reset := by
  match n with
  | 0 | 1 | 2 | 3 => rfl

/-- A state with four sockets as they are after a reset. -/
theorem State.InvDuring.of_reset_socks {s : State} (hk : ∀ n, s.sock n = Socket.reset) (hr : s.mr = 0x00#8)
    (hm : Memory.wf s.mem = true) : s.InvDuring [] where
  sockets := fun n => hk n ▸ Socket.reset_sound s.params
  live := fun n hl => absurd hl (by simp [hk n, Socket.reset])
  modeBit := by rw [hr]; rfl
  memory := hm
  descriptors := fun n _ f hn _ => absurd hn (by simp [hk n, Socket.reset])

theorem State.InvDuring.after_softReset {s : State} (h : s.InvDuring []) : (softReset s).InvDuring [] :=
  .of_reset_socks (resetFields_sock _) rfl
    ((((h.after_release 0).after_release 1).after_release 2).after_release 3).memory

theorem powerUpReset_invDuring (s : State) : (powerUpReset s).InvDuring [] :=
  .of_reset_socks (resetFields_sock (closeAll s)) rfl rfl

theorem reset_inv (p : Params) : ({ State.reset with params := p } : State).Inv :=
  (State.inv_iff _).mpr (.of_reset_socks (resetFields_sock State.reset) rfl rfl)

end Sys2Proof.Machine
end

section
/-! SUPPORT. The invariant over instructions, steps and runs, and the statements about it. -/

namespace Sys2Proof.Machine

/-- If the answer is a next state, that state meets `P`. -/
def NextMeets (P : State → Prop) (r : Result) : Prop :=
  match r with
  | .next t => P t
  | .fault _ => True
  | .refused _ => True

theorem NextMeets.of_eq {P : State → Prop} {r : Result} {t : State} (h : NextMeets P r) (hr : r = .next t) : P t := by
  subst hr; exact h

theorem NextMeets.afterAccess {P : State → Prop} {f : State → State} {r : Result} (h : NextMeets P r)
    (hf : ∀ t, P t → P (f t)) : NextMeets P (afterAccess f r) := by
  cases r with
  | next t => exact hf t h
  | fault e => exact h
  | refused e => exact h

section Instructions

variable {s : State}

theorem execCmdOpen_keeps (h : s.InvDuring []) (n : SockId) : NextMeets (State.InvDuring []) (execCmdOpen n s) := by
  refine State.InvDuring.after_answerNone ?_
  split_ifs with hs
  · exact h
  · exact h.after_openSocket _ (next := .init) nofun (not_not.mp hs)
  · exact h.after_openSocket _ (next := .udp) nofun (not_not.mp hs)
  · exact h

theorem execCmdListen_keeps (h : s.InvDuring []) (n : SockId) : NextMeets (State.InvDuring []) (execCmdListen n s) := by
  refine State.InvDuring.after_answerNone ?_
  split_ifs with hs hb
  · exact h
  · have hbind := h.after_tryBind ((h.sockets n).isSome_of_state (not_not.mp hs) nofun)
    exact hbind.after_listenBound (by simpa [tryBind_sock_of_bindOk hb] using hs)
  · exact h.after_tryBind ((h.sockets n).isSome_of_state (not_not.mp hs) nofun)

theorem execCmdConnect_keeps (h : s.InvDuring []) (n : SockId) :
    NextMeets (State.InvDuring []) (execCmdConnect n s) := by
  refine State.InvDuring.after_answerNone ?_
  split_ifs with hs hb
  · exact h
  · have hbind := h.after_tryBind ((h.sockets n).isSome_of_state (not_not.mp hs) nofun)
    exact hbind.after_connectBound (by simpa [tryBind_sock_of_bindOk hb] using hs)
  · exact h.after_tryBind ((h.sockets n).isSome_of_state (not_not.mp hs) nofun)

theorem execCmdDiscon_keeps (h : s.InvDuring []) (n : SockId) :
    NextMeets (State.InvDuring []) (execCmdDiscon n s) := by
  refine State.InvDuring.after_answerNone ?_
  split
  · exact h.after_disconnect n
  · exact h.after_disconnect n
  all_goals exact h

theorem execCmdSend_keeps (h : s.InvDuring []) (n : SockId) : NextMeets (State.InvDuring []) (execCmdSend n s) := by
  refine State.InvDuring.after_answerNone ?_
  split
  · next hs => exact h.after_update { h.sockets n with pending := fun _ => .inl hs } rfl rfl
  · next hs => exact h.after_udpSend hs
  all_goals exact h

theorem execCmdRecv_keeps (h : s.InvDuring []) (n : SockId) : NextMeets (State.InvDuring []) (execCmdRecv n s) := by
  have hrecv : (s.setSock n (s.sock n).received).InvDuring [] := by
    refine h.after_update (h.sockets n).received ?_ ?_ <;> unfold Socket.received <;> split <;> rfl
  refine State.InvDuring.after_answerNone ?_
  split
  · exact hrecv
  · exact hrecv
  · exact hrecv
  all_goals exact h

theorem execWrMr_keeps (h : s.InvDuring []) (v : Byte) : NextMeets (State.InvDuring []) (execWrMr v s) := by
  refine State.InvDuring.after_answerNone ?_
  split_ifs with hv
  · exact h.after_softReset
  · exact { h with modeBit := Bool.eq_false_iff.mpr hv }

/-- A register write that stores into fields the socket's clauses do not speak of. -/
theorem State.InvDuring.after_store (h : s.InvDuring []) {n : SockId} {k : Socket} (hk : k.Sound s.params)
    (hfd : k.fd = (s.sock n).fd) (hl : k.tickLive = (s.sock n).tickLive) :
    (answerNone (s.setSock n k)).InvDuring [] :=
  (h.after_update hk hfd hl).after_answerNone

/-- Every internal access keeps the invariant. The rows named are those that change a socket, MR or a buffer. -/
theorem execInternal_keeps (h : s.InvDuring []) (i : Instr) :
    NextMeets (State.InvDuring []) (execInternal i s) := by
  cases i with
  | wrMr v => exact execWrMr_keeps h v
  | wrSnMr n v => exact h.after_store ((h.sockets n).modeStored v) rfl rfl
  | wrSnIr n v => exact h.after_store ((h.sockets n).clearIr v) rfl rfl
  | wrSnPort0 n v | wrSnPort1 n v => exact (h.after_writePort n _).after_answerNone
  | wrSnDipr0 n v | wrSnDipr1 n v | wrSnDipr2 n v | wrSnDipr3 n v | wrSnDport0 n v | wrSnDport1 n v | wrSnTxWr0 n v
  | wrSnTxWr1 n v | wrSnRxRd0 n v | wrSnRxRd1 n v => exact h.after_store { h.sockets n with } rfl rfl
  | cmdOpen n => exact execCmdOpen_keeps h n
  | cmdListen n => exact execCmdListen_keeps h n
  | cmdConnect n => exact execCmdConnect_keeps h n
  | cmdDiscon n => exact execCmdDiscon_keeps h n
  | cmdClose n => exact (h.after_release n).after_answerNone
  | cmdSend n => exact execCmdSend_keeps h n
  | cmdRecv n => exact execCmdRecv_keeps h n
  | wrTxbuf n o v =>
    have hr := txCell_range n o.toNat o.isLt
    exact (h.after_setBuf v hr.1 (hr.2.trans (by decide))).after_answerNone
  | wrRxbuf n o v =>
    have hr := rxCell_range n o.toNat o.isLt
    exact (h.after_setBuf v (le_trans (by decide) hr.1) hr.2).after_answerNone
  | hrdDirect | hwrDirect | hrdMrInd | hwrMrInd | hrdIdmAr0 | hwrIdmAr0 | hrdIdmAr1 | hwrIdmAr1 | hrdIdmDr | hwrIdmDr
  | tick | reset => trivial
  | _ => exact h.frame rfl rfl rfl rfl

theorem memRead_keeps (h : s.InvDuring []) (a : Word) : NextMeets (State.InvDuring []) (memRead a s) :=
  execInternal_keeps h _

theorem memWrite_keeps (h : s.InvDuring []) (a : Word) (v : Byte) : NextMeets (State.InvDuring []) (memWrite a v s) :=
  execInternal_keeps h _

/-- An internal access has the same meaning at both levels of the dispatch. -/
theorem exec_eq_execInternal {i : Instr} (hi : i.level = .internal) (s : State) : exec i s = execInternal i s := by
  cases i with
  | hrdDirect | hwrDirect | hrdMrInd | hwrMrInd | hrdIdmAr0 | hwrIdmAr0 | hrdIdmAr1 | hwrIdmAr1 | hrdIdmDr | hwrIdmDr
  | tick | reset => cases hi
  | _ => rfl

/-- Every instruction keeps the invariant. -/
theorem exec_keeps (h : s.InvDuring []) (i : Instr) : NextMeets (State.InvDuring []) (exec i s) := by
  cases i with
  | hrdDirect a => exact memRead_keeps h a
  | hwrDirect a v => exact memWrite_keeps h a v
  | hrdMrInd hi => exact memRead_keeps h 0x0000#16
  | hwrMrInd hi v => exact memWrite_keeps h 0x0000#16 v
  | hrdIdmAr0 | hrdIdmAr1 => exact h.after_answerRead _
  | hwrIdmAr0 | hwrIdmAr1 => exact h.frame rfl rfl rfl rfl
  | hrdIdmDr => exact (memRead_keeps h _).afterAccess fun _ ht => ht.after_autoInc _ _
  | hwrIdmDr hi v => exact (memWrite_keeps h _ v).afterAccess fun _ ht => ht.after_autoInc _ _
  | tick => exact h.after_tickAll.after_answerNone
  | reset => exact (powerUpReset_invDuring s).after_answerNone
  | _ =>
    rw [exec_eq_execInternal rfl]
    exact execInternal_keeps h _

end Instructions

/-- What a step that answers a next state has done: nothing, or it ran one instruction. -/
theorem step_next_cases {s t : State} (h : step s = .next t) : t = s ∨ ∃ i, exec i s.taken = .next t := by
  unfold step at h
  split at h
  · cases h; exact .inl rfl
  · cases h
  · next i _ => exact .inr ⟨i, h⟩

theorem step_keeps_inv {s t : State} (hs : s.Inv) (h : step s = .next t) : t.Inv := by
  rw [State.inv_iff] at hs ⊢
  obtain rfl | ⟨i, hi⟩ := step_next_cases h
  · exact hs
  · exact (exec_keeps hs.after_taken i).of_eq hi

/-- The invariant holds of every reachable state. -/
theorem Reachable.inv {p : Params} {s : State} (h : Reachable p s) : s.Inv := by
  induction h with
  | powerUp => exact reset_inv p
  | supplied s bus net _ ih => exact (State.inv_iff _).mpr (((State.inv_iff s).mp ih).after_supply bus net)
  | stepped s t _ hst ih => exact step_keeps_inv ih hst

/-- Settles O55: each shared operation keeps the invariant, so every instruction does, and a step runs one. -/
theorem stepKeepsTheInvariant : Obligations.StepKeepsTheInvariant :=
  fun _ _ hs h => step_keeps_inv hs h

/-- Settles O57, by the descriptor clause of the invariant, which holds of every reachable state. -/
theorem descriptorExactlyWhenOpen : Obligations.DescriptorExactlyWhenOpen := by
  intro p s hr n
  have hsound := ((State.inv_iff s).mp hr.inv).sockets n
  rw [← hsound.fd, Option.isSome_iff_ne_none]

end Sys2Proof.Machine
end

section
/-! SUPPORT. What a transaction of the bus can reach (spec/20_memory.md): a buffer byte is stored and read at its own
address, a read changes no state of the block, and only a command, port or reset write reaches the network. -/

namespace Sys2Proof.Machine

/-! ### Buffer bytes by internal address (R91, R149 to R152) -/

theorem bufOffset_toNat (a : Word) : (bufOffset a).toNat = a.toNat % 2048 := by
  rw [bufOffset, extract_toNat, pow_zero, Nat.div_one]
  rfl

/-- No buffer address is that of a socket register. -/
theorem not_sockReg_of_le {a : Word} (hlo : 0x4000 ≤ a.toNat) : a.extractLsb' 10 6 ≠ 0x01#6 := fun h => by
  have htop := congrArg BitVec.toNat h
  rw [extract_toNat, BitVec.toNat_ofNat] at htop
  have := a.isLt
  omega

/-- The TX buffers lie in the eighth of the address space with top bits 010. -/
theorem decodeInternal_tx (we : Bool) {a : Word} (v : Byte) (hlo : 0x4000 ≤ a.toNat) (hhi : a.toNat < 0x6000) :
    decodeInternal we a v =
      pick we (.rdTxbuf (sockOfBuf a) (bufOffset a)) (.wrTxbuf (sockOfBuf a) (bufOffset a) v) := by
  have htx : a.extractLsb' 13 3 = 0x2#3 := by
    apply BitVec.eq_of_toNat_eq
    rw [extract_toNat, BitVec.toNat_ofNat]
    omega
  rw [decodeInternal, if_neg (by omega), if_neg (not_sockReg_of_le hlo), if_pos htx]

/-- The RX buffers lie in the eighth of the address space with top bits 011. -/
theorem decodeInternal_rx (we : Bool) {a : Word} (v : Byte) (hlo : 0x6000 ≤ a.toNat) (hhi : a.toNat < 0x8000) :
    decodeInternal we a v =
      pick we (.rdRxbuf (sockOfBuf a) (bufOffset a)) (.wrRxbuf (sockOfBuf a) (bufOffset a) v) := by
  have htx : a.extractLsb' 13 3 ≠ 0x2#3 := fun h => by
    have := congrArg BitVec.toNat h
    rw [extract_toNat, BitVec.toNat_ofNat] at this
    omega
  have hrx : a.extractLsb' 13 3 = 0x3#3 := by
    apply BitVec.eq_of_toNat_eq
    rw [extract_toNat, BitVec.toNat_ofNat]
    omega
  rw [decodeInternal, if_neg (by omega), if_neg (not_sockReg_of_le (by omega)), if_neg htx, if_pos hrx]

/-- A TX address is the cell of the socket and offset it decodes to. -/
theorem txCell_fields {a : Word} (hlo : 0x4000 ≤ a.toNat) (hhi : a.toNat < 0x6000) :
    txCell (sockOfBuf a) (bufOffset a).toNat = a.toNat := by
  rw [txCell, sockOfBuf_val, bufOffset_toNat]
  omega

/-- An RX address is the cell of the socket and offset it decodes to. -/
theorem rxCell_fields {a : Word} (hlo : 0x6000 ≤ a.toNat) (hhi : a.toNat < 0x8000) :
    rxCell (sockOfBuf a) (bufOffset a).toNat = a.toNat := by
  rw [rxCell, sockOfBuf_val, bufOffset_toNat]
  omega

theorem memRead_buffer {a : Word} (s : State) (hlo : 0x4000 ≤ a.toNat) (hhi : a.toNat < 0x8000) :
    memRead a s = .next (answerRead (s.bufByte a.toNat) s) := by
  obtain htx | hrx := Nat.lt_or_ge a.toNat 0x6000
  · rw [memRead, decodeInternal_tx false _ hlo htx, ← txCell_fields hlo htx]
    rfl
  · rw [memRead, decodeInternal_rx false _ hrx hhi, ← rxCell_fields hrx hhi]
    rfl

theorem memWrite_buffer {a : Word} (v : Byte) (s : State) (hlo : 0x4000 ≤ a.toNat) (hhi : a.toNat < 0x8000) :
    memWrite a v s = .next (answerNone (s.setBuf a.toNat v)) := by
  obtain htx | hrx := Nat.lt_or_ge a.toNat 0x6000
  · rw [memWrite, decodeInternal_tx true _ hlo htx, ← txCell_fields hlo htx]
    rfl
  · rw [memWrite, decodeInternal_rx true _ hrx hhi, ← rxCell_fields hrx hhi]
    rfl

theorem bufByte_setBuf (s : State) (a b : Nat) (v : Byte) :
    (s.setBuf a v).bufByte b = if b = a then v else s.bufByte b := by
  split
  · next h => rw [h, bufByte_setBuf_same]
  · next h => exact bufByte_setBuf_other s a b v h

/-- Settles O30: both accesses go to the buffer byte at their own address, and a store replaces that byte alone. -/
theorem busReadReturnsLastBusWriteOfABufferByte : Obligations.BusReadReturnsLastBusWriteOfABufferByte := by
  intro s h g v hhlo hhhi hglo hghi
  refine ⟨_, _, _, memWrite_buffer v s hhlo hhhi, memRead_buffer _ hglo hghi, memRead_buffer s hglo hghi, ?_⟩
  simp only [answerRead_busRdata, answerNone_bufByte, bufByte_setBuf, ← BitVec.toNat_inj]
  split <;> rfl

/-! ### Reads (R73, R131) -/

/-- The access answers a byte; besides the read data and the count of draws it changes nothing. -/
def ReadsOnly (i : Instr) : Prop :=
  ∀ s : State, ∃ b d, execInternal i s = .next { s with busRdata := some b, draws := d }

theorem decodeGlobal_readsOnly (a : Word) (v : Byte) : ReadsOnly (decodeGlobal false a v) := by
  unfold decodeGlobal
  split
  case h_27 => split_ifs <;> exact fun _ => ⟨_, _, rfl⟩
  all_goals exact fun _ => ⟨_, _, rfl⟩

theorem decodeSocket_readsOnly (n : SockId) (off : BitVec 8) (v : Byte) : ReadsOnly (decodeSocket false n off v) := by
  unfold decodeSocket
  split
  case h_23 => split_ifs <;> exact fun _ => ⟨_, _, rfl⟩
  all_goals exact fun _ => ⟨_, _, rfl⟩

theorem decodeUnmapped_readsOnly (a : Word) (v : Byte) : ReadsOnly (decodeUnmapped false a v) := by
  unfold decodeUnmapped
  split_ifs <;> exact fun _ => ⟨_, _, rfl⟩

theorem decodeInternal_readsOnly (a : Word) (v : Byte) : ReadsOnly (decodeInternal false a v) := by
  unfold decodeInternal
  split_ifs
  · exact decodeGlobal_readsOnly a v
  · exact decodeSocket_readsOnly _ _ v
  · exact fun _ => ⟨_, _, rfl⟩
  · exact fun _ => ⟨_, _, rfl⟩
  · exact decodeUnmapped_readsOnly a v

/-- R73: what an internal read can do. -/
theorem memRead_eq (a : Word) (s : State) : ∃ b d, memRead a s = .next { s with busRdata := some b, draws := d } :=
  decodeInternal_readsOnly a 0x00#8 s

/-- Settles O31: every read is an internal read or a half of the address register, and IDM_DR increments after it. -/
theorem readsHaveNoSideEffectButTheAutoIncrement : Obligations.ReadsHaveNoSideEffectButTheAutoIncrement := by
  intro s h hi
  refine ⟨memRead_eq h s, ⟨_, rfl⟩, ⟨_, rfl⟩, ⟨_, rfl⟩, ?_⟩
  obtain ⟨b, d, hread⟩ := memRead_eq s.idmAr s
  have hdr : exec (.hrdIdmDr hi) s = afterAccess (autoInc (aiBit s.mr) false) (memRead s.idmAr s) := rfl
  refine ⟨b, d, ?_⟩
  rw [hdr, hread, afterAccess, autoInc_eq, Bool.not_false, Bool.and_true]
  rfl

/-! ### The network (R78, R79) -/

/-- No request was issued and no answer taken between the two states. -/
def State.SameNetwork (s t : State) : Prop := t.netOut = s.netOut ∧ t.netIn = s.netIn

theorem State.SameNetwork.after_autoInc {s t : State} (h : s.SameNetwork t) (ai ended : Bool) :
    s.SameNetwork (autoInc ai ended t) := by
  rw [autoInc_eq]
  exact h

theorem memRead_sameNetwork (a : Word) (s : State) : NextMeets s.SameNetwork (memRead a s) := by
  obtain ⟨b, d, hread⟩ := memRead_eq a s
  rw [hread]
  exact ⟨rfl, rfl⟩

/-- The writes of R165, R168 and R302, through which a bus transaction may reach the network: a command, a half of a
source port, and MR with the reset bit; and what is no internal access. -/
def mayReachNetwork (i : Instr) : Bool :=
  match i with
  | .wrMr v => rstBit v
  | .wrSnPort0 _ _ | .wrSnPort1 _ _ | .cmdOpen _ | .cmdListen _ | .cmdConnect _ | .cmdDiscon _ | .cmdClose _
  | .cmdSend _ | .cmdRecv _ | .cmdInvalid _ _ => true
  | i => i.level != .internal

/-- Every other internal access leaves the requests and the answers as they are. -/
theorem execInternal_sameNetwork {i : Instr} (hi : mayReachNetwork i = false) (s : State) :
    NextMeets s.SameNetwork (execInternal i s) := by
  cases i with
  | wrMr v =>
    have hv : ¬ rstBit v = true := Bool.eq_false_iff.mp hi
    simp only [execInternal, execWrMr, if_neg hv]
    exact ⟨rfl, rfl⟩
  | wrSnPort0 | wrSnPort1 | cmdOpen | cmdListen | cmdConnect | cmdDiscon | cmdClose | cmdSend | cmdRecv | cmdInvalid
  | hrdDirect | hwrDirect | hrdMrInd | hwrMrInd | hrdIdmAr0 | hwrIdmAr0 | hrdIdmAr1 | hwrIdmAr1 | hrdIdmDr | hwrIdmDr
  | tick | reset => cases hi
  | _ => exact ⟨rfl, rfl⟩

theorem decodeGlobal_mayReachNetwork {a : Word} {v : Byte} (h : mayReachNetwork (decodeGlobal true a v) = true) :
    a = 0x0000#16 ∧ rstBit v = true := by
  unfold decodeGlobal at h
  split at h
  case h_1 h0 => exact ⟨BitVec.eq_of_toNat_eq h0, h⟩
  case h_27 => split_ifs at h <;> cases h
  all_goals cases h

theorem decodeSocket_mayReachNetwork {n : SockId} {off : BitVec 8} {v : Byte}
    (h : mayReachNetwork (decodeSocket true n off v) = true) : off = 0x01#8 ∨ off = 0x04#8 ∨ off = 0x05#8 := by
  unfold decodeSocket at h
  split at h
  case h_2 hcr => exact .inl (BitVec.eq_of_toNat_eq hcr)
  case h_5 hport => exact .inr (.inl (BitVec.eq_of_toNat_eq hport))
  case h_6 hport => exact .inr (.inr (BitVec.eq_of_toNat_eq hport))
  case h_23 => split_ifs at h <;> cases h
  all_goals cases h

theorem decodeUnmapped_mayReachNetwork (a : Word) (v : Byte) : mayReachNetwork (decodeUnmapped true a v) = false := by
  unfold decodeUnmapped
  split_ifs <;> rfl

/-- R90: a socket-register address is that of the socket and offset it decodes to. -/
theorem sockAddr_fields {a : Word} (h : a.extractLsb' 10 6 = 0x01#6) : sockAddr (sockOfReg a) (regOffset a) = a := by
  have htop := congrArg BitVec.toNat h
  rw [extract_toNat, BitVec.toNat_ofNat] at htop
  apply BitVec.eq_of_toNat_eq
  rw [sockAddr_toNat, sockOfReg_val, regOffset, extract_toNat]
  omega

/-- The address and byte of a write through which the network may be reached. -/
theorem decodeInternal_mayReachNetwork {a : Word} {v : Byte} (h : mayReachNetwork (decodeInternal true a v) = true) :
    (a = 0x0000#16 ∧ rstBit v = true) ∨
      ∃ n, a = sockAddr n 0x01#8 ∨ a = sockAddr n 0x04#8 ∨ a = sockAddr n 0x05#8 := by
  unfold decodeInternal at h
  split_ifs at h with _ hsock
  · exact .inl (decodeGlobal_mayReachNetwork h)
  · refine .inr ⟨sockOfReg a, ?_⟩
    have haddr := sockAddr_fields hsock
    obtain hoff | hoff | hoff := decodeSocket_mayReachNetwork h <;> rw [hoff] at haddr
    · exact .inl haddr.symm
    · exact .inr (.inl haddr.symm)
    · exact .inr (.inr haddr.symm)
  · cases h
  · cases h
  · rw [decodeUnmapped_mayReachNetwork] at h
    cases h

/-- R79: a write that is no command, port or reset write. -/
theorem memWrite_sameNetwork {a : Word} {v : Byte} (s : State) (hreset : ¬ (a = 0x0000#16 ∧ rstBit v = true))
    (hsock : ∀ n, a ≠ sockAddr n 0x01#8 ∧ a ≠ sockAddr n 0x04#8 ∧ a ≠ sockAddr n 0x05#8) :
    NextMeets s.SameNetwork (memWrite a v s) := by
  refine execInternal_sameNetwork (Bool.eq_false_iff.mpr fun h => ?_) s
  obtain hmr | ⟨n, hcr | hport0 | hport1⟩ := decodeInternal_mayReachNetwork h
  · exact hreset hmr
  · exact (hsock n).1 hcr
  · exact (hsock n).2.1 hport0
  · exact (hsock n).2.2 hport1

/-- The mode register's address is no socket register's. -/
theorem sockAddr_ne_zero (n : SockId) (off : BitVec 8) : 0x0000#16 ≠ sockAddr n off := fun h => by
  have := congrArg BitVec.toNat h
  rw [sockAddr_toNat, BitVec.toNat_ofNat] at this
  omega

/-- Settles O60: every row is an internal access, or one of a half of the address register, which asks nothing. -/
theorem otherBusTransactionsReachNoNetwork : Obligations.OtherBusTransactionsReachNoNetwork := by
  intro s t h hi v
  refine ⟨?hrdDirect, ?hrdMrInd, ?hrdIdmAr0, ?hrdIdmAr1, ?hrdIdmDr, ?hwrDirect, ?hwrMrInd, ?hwrIdmAr0, ?hwrIdmAr1,
    ?hwrIdmDr⟩
  case hrdDirect => exact (memRead_sameNetwork h s).of_eq
  case hrdMrInd => exact (memRead_sameNetwork 0x0000#16 s).of_eq
  case hrdIdmDr => exact ((memRead_sameNetwork _ s).afterAccess fun _ hu => hu.after_autoInc _ _).of_eq
  case hwrDirect => exact fun ht hreset hsock => (memWrite_sameNetwork s hreset hsock).of_eq ht
  case hwrMrInd =>
    intro ht hv
    have hreset : ¬ (0x0000#16 = 0x0000#16 ∧ rstBit v = true) := fun hr => Bool.eq_false_iff.mp hv hr.2
    exact (memWrite_sameNetwork s hreset fun n =>
      ⟨sockAddr_ne_zero n _, sockAddr_ne_zero n _, sockAddr_ne_zero n _⟩).of_eq ht
  case hwrIdmDr =>
    exact fun ht hreset hsock =>
      ((memWrite_sameNetwork s hreset hsock).afterAccess fun _ hu => hu.after_autoInc _ _).of_eq ht
  case hrdIdmAr0 | hrdIdmAr1 | hwrIdmAr0 | hwrIdmAr1 => rintro ⟨⟩; exact ⟨rfl, rfl⟩

/-! ### The step (R71, R113) -/

/-- Settles O4: the decoder's mode bit is the one the fetch samples, and taking the transaction leaves the rest. -/
theorem stepRunsTheDecodedTransaction : Obligations.StepRunsTheDecodedTransaction := by
  constructor
  · intro s t rest i hbus hdec
    rw [step_run s t rest i hbus hdec, State.taken, hbus, List.tail_cons]
  · exact step_idle

end Sys2Proof.Machine
end

section
/-! SUPPORT. The transaction words: a word is its fields, the decoder reads a word by them and refuses the reserved
ones (spec/30_encoding.md R86, R108; log 10); every transaction of the bus answers a next state; and the status byte of
R104. -/

namespace Sys2Proof

/-! ### Fields of a word -/

theorem extract32_toNat (w : BitVec 32) (start len : Nat) :
    (w.extractLsb' start len).toNat = w.toNat / 2 ^ start % 2 ^ len := by
  rw [BitVec.extractLsb'_toNat, Nat.shiftRight_eq_div_pow]

@[simp] theorem wordOp_hostWord (op : BitVec 2) (h : Word) (v : Byte) : wordOp (hostWord op h v) = op := by
  have := op.isLt; have := h.isLt; have := v.isLt
  apply BitVec.eq_of_toNat_eq
  rw [wordOp, extract32_toNat, hostWord_toNat]
  omega

@[simp] theorem wordAddr_hostWord (op : BitVec 2) (h : Word) (v : Byte) : wordAddr (hostWord op h v) = h := by
  have := h.isLt; have := v.isLt
  apply BitVec.eq_of_toNat_eq
  rw [wordAddr, extract32_toNat, hostWord_toNat]
  omega

@[simp] theorem wordData_hostWord (op : BitVec 2) (h : Word) (v : Byte) : wordData (hostWord op h v) = v := by
  have := v.isLt
  apply BitVec.eq_of_toNat_eq
  rw [wordData, extract32_toNat, hostWord_toNat]
  omega

/-- R86: a host word within its 26 bits is its fields. -/
theorem hostWord_fields {w : BitVec 32} (h : w.extractLsb' 26 6 = 0#6) :
    hostWord (wordOp w) (wordAddr w) (wordData w) = w := by
  have htop := congrArg BitVec.toNat h
  rw [extract32_toNat, BitVec.toNat_ofNat] at htop
  have := w.isLt
  apply BitVec.eq_of_toNat_eq
  rw [hostWord_toNat, wordOp, wordAddr, wordData, extract32_toNat, extract32_toNat, extract32_toNat]
  omega

theorem internalWe_toNat (w : BitVec 32) : (internalWe w).toNat = w.toNat / 2 ^ 16 % 2 := by
  rw [internalWe, BitVec.getLsbD, Nat.toNat_testBit]

@[simp] theorem internalWe_internalWord (we : Bool) (a : Word) (v : Byte) : internalWe (internalWord we a v) = we := by
  have := we.toNat_lt; have := a.isLt
  rw [Bool.eq_iff_iff, ← Bool.toNat_eq_one, ← Bool.toNat_eq_one, internalWe_toNat, internalWord_toNat]
  omega

@[simp] theorem internalAddr_internalWord (we : Bool) (a : Word) (v : Byte) :
    internalAddr (internalWord we a v) = a := by
  have := a.isLt
  apply BitVec.eq_of_toNat_eq
  rw [internalAddr, extract32_toNat, internalWord_toNat]
  omega

@[simp] theorem internalData_internalWord (we : Bool) (a : Word) (v : Byte) :
    internalData (internalWord we a v) = v := by
  have := we.toNat_lt; have := a.isLt; have := v.isLt
  apply BitVec.eq_of_toNat_eq
  rw [internalData, extract32_toNat, internalWord_toNat]
  omega

/-- An internal word with no bit in its gap is its fields. -/
theorem internalWord_fields {w : BitVec 32} (h : w.extractLsb' 17 7 = 0#7) :
    internalWord (internalWe w) (internalAddr w) (internalData w) = w := by
  have hgap := congrArg BitVec.toNat h
  rw [extract32_toNat, BitVec.toNat_ofNat] at hgap
  have := w.isLt
  apply BitVec.eq_of_toNat_eq
  rw [internalWord_toNat, internalWe_toNat, internalAddr, internalData, extract32_toNat, extract32_toNat]
  omega

/-! ### Decode of a word by its fields -/

section

variable (p : IndHostDecode) (ind : Bool)

@[simp] theorem decode_readWord (h : Word) :
    decode p ind (.host (hostWord opRead h 0#8)) = .ok (decodeHostRead p ind h) := by
  simp [decode, decodeHost, hostWord_reserved]

@[simp] theorem decode_writeWord (h : Word) (v : Byte) :
    decode p ind (.host (hostWord opWrite h v)) = .ok (decodeHostWrite p ind h v) := by
  simp [decode, decodeHost, hostWord_reserved, opRead, opWrite]

@[simp] theorem decode_tickWord : decode p ind (.host (hostWord opTick 0#16 0#8)) = .ok .tick := by
  simp [decode, decodeHost, hostWord_reserved, opRead, opWrite, opTick]

@[simp] theorem decode_resetWord : decode p ind (.host (hostWord opReset 0#16 0#8)) = .ok .reset := by
  simp [decode, decodeHost, hostWord_reserved, opRead, opWrite, opTick, opReset]

theorem decode_readWord_reserved (h : Word) {v : Byte} (hv : v ≠ 0#8) :
    decode p ind (.host (hostWord opRead h v)) = .error .readWithData := by
  simp [decode, decodeHost, hostWord_reserved, hv]

theorem decode_controlWord_reserved {op : BitVec 2} (hop : op = opTick ∨ op = opReset) {h : Word} {v : Byte}
    (hv : h ≠ 0#16 ∨ v ≠ 0#8) : decode p ind (.host (hostWord op h v)) = .error .controlWithOperands := by
  have hread : op ≠ opRead := by rintro rfl; revert hop; decide
  have hwrite : op ≠ opWrite := by rintro rfl; revert hop; decide
  simp only [decode, decodeHost, hostWord_reserved, wordOp_hostWord, wordAddr_hostWord, wordData_hostWord, hread,
    hwrite, hv, ne_eq, not_true_eq_false, if_false, if_true]

/-- What an accepted host word is: one of the four operations of R86, with nothing in a field it does not have. -/
theorem decodeHost_ok {w : BitVec 32} {i : Instr} (h : decodeHost p ind w = .ok i) :
    (∃ a, w = hostWord opRead a 0#8 ∧ i = decodeHostRead p ind a) ∨
    (∃ a v, w = hostWord opWrite a v ∧ i = decodeHostWrite p ind a v) ∨
    (w = hostWord opTick 0#16 0#8 ∧ i = .tick) ∨ (w = hostWord opReset 0#16 0#8 ∧ i = .reset) := by
  have hops : ∀ op : BitVec 2, op ≠ opRead → op ≠ opWrite → op ≠ opTick → op = opReset := by decide
  unfold decodeHost at h
  split_ifs at h with hhigh hread hdata hwrite hzero htick <;> cases h
  all_goals have hw := hostWord_fields (not_not.mp hhigh)
  · rw [hread, not_not.mp hdata] at hw
    exact .inl ⟨_, hw.symm, rfl⟩
  · rw [hwrite] at hw
    exact .inr (.inl ⟨_, _, hw.symm, rfl⟩)
  · obtain ⟨haddr, hdata⟩ := not_or.mp hzero
    rw [htick, not_not.mp haddr, not_not.mp hdata] at hw
    exact .inr (.inr (.inl ⟨hw.symm, rfl⟩))
  · obtain ⟨haddr, hdata⟩ := not_or.mp hzero
    rw [hops _ hread hwrite htick, not_not.mp haddr, not_not.mp hdata] at hw
    exact .inr (.inr (.inr ⟨hw.symm, rfl⟩))

/-- An internal read carries no data (log 10). -/
theorem decode_internalWord {we : Bool} (a : Word) {v : Byte} (hv : we = false → v = 0#8) :
    decode p ind (.internal (internalWord we a v)) = .ok (decodeInternal we a v) := by
  simpa [decode, decodeInternalWord, internalWord_gap] using hv

/-- What an accepted internal word is. -/
theorem decodeInternalWord_ok {w : BitVec 32} {i : Instr} (h : decodeInternalWord w = .ok i) :
    ∃ we a v, (we = false → v = 0#8) ∧ w = internalWord we a v ∧ i = decodeInternal we a v := by
  unfold decodeInternalWord at h
  split_ifs at h with hgap hdata
  cases h
  have hv : internalWe w = false → internalData w = 0#8 := by simpa using hdata
  exact ⟨_, _, _, hv, (internalWord_fields (not_not.mp hgap)).symm, rfl⟩

end

namespace Machine

/-- Settles O5: such a word decodes to an error, whatever the mode. -/
theorem reservedWordsAreRefused : Obligations.ReservedWordsAreRefused := by
  rintro s op h v rest hbus (⟨rfl, hv⟩ | ⟨hop, hv⟩)
  · exact ⟨_, step_bad s _ rest _ hbus (decode_readWord_reserved _ _ h hv)⟩
  · exact ⟨_, step_bad s _ rest _ hbus (decode_controlWord_reserved _ _ hop hv)⟩

/-! ### Every transaction answers a next state (R76, R279) -/

theorem memRead_next (a : Word) (s : State) : ∃ t, memRead a s = .next t :=
  execInternal_next _ s (decodeInternal_level _ _ _)

theorem memWrite_next (a : Word) (v : Byte) (s : State) : ∃ t, memWrite a v s = .next t :=
  execInternal_next _ s (decodeInternal_level _ _ _)

theorem afterAccess_next (f : State → State) {r : Result} (h : ∃ t, r = .next t) :
    ∃ t, afterAccess f r = .next t := by
  obtain ⟨t, rfl⟩ := h
  exact ⟨f t, rfl⟩

/-- No instruction is refused or faults. -/
theorem exec_next (i : Instr) (s : State) : ∃ t, exec i s = .next t := by
  cases i with
  | hrdDirect h => exact memRead_next h s
  | hwrDirect h v => exact memWrite_next h v s
  | hrdMrInd => exact memRead_next 0x0000#16 s
  | hwrMrInd _ v => exact memWrite_next 0x0000#16 v s
  | hrdIdmDr => exact afterAccess_next _ (memRead_next _ s)
  | hwrIdmDr _ v => exact afterAccess_next _ (memWrite_next _ v s)
  | hrdIdmAr0 | hwrIdmAr0 | hrdIdmAr1 | hwrIdmAr1 | tick | reset => exact ⟨_, rfl⟩
  | _ =>
    rw [exec_eq_execInternal rfl]
    exact execInternal_next _ s rfl

/-- A pending word that decodes is run to a next state. -/
theorem step_withNext_next {s : State} {t : Transaction} {i : Instr} (h : s.decodes t = .ok i) :
    ∃ u, step (s.withNext t) = .next u := by
  rw [step_run (s.withNext t) t s.busIn i rfl h]
  exact exec_next i _

/-- Settles O6: each of the four words decodes in either mode, and no instruction is refused. -/
theorem everyTransactionOfTheBusCompletes : Obligations.EveryTransactionOfTheBusCompletes := fun _ h v =>
  ⟨step_withNext_next (decode_readWord _ _ h), step_withNext_next (decode_writeWord _ _ h v),
    step_withNext_next (decode_tickWord _ _), step_withNext_next (decode_resetWord _ _)⟩

/-! ### The status byte (R104) -/

/-- Settles O21: the read answers the status byte, whose values are the table of R104. -/
theorem statusByteEncodesTheSocketState : Obligations.StatusByteEncodesTheSocketState := by
  intro s n
  refine ⟨statusByte (s.sock n).state, rfl, ?_⟩
  cases (s.sock n).state <;> rfl

end Machine

end Sys2Proof
end

section
/-! SUPPORT. The encoder inverts the decoder (spec/30_encoding.md R86 to R91, R100 to R112): a word the decoder accepts
is the encoding of what it reads. -/

namespace Sys2Proof

/-! ### Addresses by their fields -/

/-- A bit vector is its high part and its low `n` bits. -/
theorem append_low {m n : Nat} {x : BitVec m} {a : BitVec (m + n)} (h : a.toNat / 2 ^ n = x.toNat) :
    x ++ a.extractLsb' 0 n = a := by
  apply BitVec.eq_of_toNat_eq
  rw [append_toNat, BitVec.extractLsb'_toNat, Nat.shiftRight_zero, ← h, Nat.mul_comm]
  exact Nat.div_add_mod a.toNat (2 ^ n)

theorem extract_eq_iff (a : Word) (start len : Nat) (x : BitVec len) :
    a.extractLsb' start len = x ↔ a.toNat / 2 ^ start % 2 ^ len = x.toNat := by
  rw [← BitVec.toNat_inj, extract_toNat]

/-- R91: a TX buffer address is that of the socket and offset it decodes to. -/
theorem txAddr_fields {a : Word} (h : a.extractLsb' 13 3 = 0x2#3) : txAddr (sockOfBuf a) (bufOffset a) = a := by
  rw [extract_eq_iff, BitVec.toNat_ofNat] at h
  apply BitVec.eq_of_toNat_eq
  rw [txAddr_toNat, sockOfBuf_val, Machine.bufOffset_toNat]
  omega

/-- R91: an RX buffer address is that of the socket and offset it decodes to. -/
theorem rxAddr_fields {a : Word} (h : a.extractLsb' 13 3 = 0x3#3) : rxAddr (sockOfBuf a) (bufOffset a) = a := by
  rw [extract_eq_iff, BitVec.toNat_ofNat] at h
  apply BitVec.eq_of_toNat_eq
  rw [rxAddr_toNat, sockOfBuf_val, Machine.bufOffset_toNat]
  omega

/-! ### Internal accesses -/

/-- The instruction is well formed, and the internal access `(we, a, v)` is its encoding. -/
structure AccessOf (we : Bool) (a : Word) (v : Byte) (i : Instr) : Prop where
  word : encode i = .internal (internalWord we a v)
  wf : i.wf = true

/-- The read and the write of a location, at the address `b` that the two rows encode. -/
theorem AccessOf.pick {we : Bool} {a b : Word} {v : Byte} {read write : Instr} (hv : we = false → v = 0#8)
    (hread : AccessOf false b 0#8 read) (hwrite : AccessOf true b v write) (hb : b = a) :
    AccessOf we a v (pick we read write) := by
  subst hb
  cases we with
  | false => rw [hv rfl]; exact hread
  | true => exact hwrite

theorem AccessOf.ite {c : Prop} [Decidable c] {we : Bool} {a : Word} {v : Byte} {i j : Instr}
    (hi : c → AccessOf we a v i) (hj : ¬ c → AccessOf we a v j) : AccessOf we a v (if c then i else j) := by
  split
  · next h => exact hi h
  · next h => exact hj h

theorem decodeCommand_accessOf (n : SockId) (v : Byte) : AccessOf true (sockAddr n 0x01#8) v (decodeCommand n v) := by
  unfold decodeCommand
  split_ifs
  case neg =>
    have hv : isCommandByte v = false := by simp [isCommandByte, *]
    exact ⟨rfl, congrArg not hv⟩
  all_goals subst v; exact ⟨rfl, rfl⟩

section

variable {we : Bool} {v : Byte} (hv : we = false → v = 0#8)

include hv

theorem decodeGlobal_accessOf {a : Word} (ha : a.toNat ≤ 0x002F) : AccessOf we a v (decodeGlobal we a v) := by
  unfold decodeGlobal
  split
  case h_27 =>
    simp only [imp_false] at *
    repeat' with_reducible refine .ite (fun _ => ?_) fun _ => ?_
    all_goals exact .pick hv ⟨rfl, rfl⟩ ⟨rfl, rfl⟩ (append_low (by rw [BitVec.toNat_ofNat]; omega))
  all_goals next h => exact .pick hv ⟨rfl, rfl⟩ ⟨rfl, rfl⟩ (BitVec.eq_of_toNat_eq h.symm)

theorem decodeSocket_accessOf (n : SockId) (off : BitVec 8) :
    AccessOf we (sockAddr n off) v (decodeSocket we n off v) := by
  have := off.isLt
  unfold decodeSocket
  split
  case h_23 =>
    simp only [imp_false] at *
    repeat' with_reducible refine .ite (fun _ => ?_) fun _ => ?_
    all_goals
      refine .pick hv ⟨rfl, rfl⟩ ⟨rfl, rfl⟩ (congrArg (sockAddr n) (append_low ?_))
      rw [BitVec.toNat_ofNat]
      omega
  case h_2 h =>
    exact .pick hv ⟨rfl, rfl⟩ (decodeCommand_accessOf n v) (congrArg (sockAddr n) (BitVec.eq_of_toNat_eq h.symm))
  all_goals next h =>
    exact .pick hv ⟨rfl, rfl⟩ ⟨rfl, rfl⟩ (congrArg (sockAddr n) (BitVec.eq_of_toNat_eq h.symm))

theorem decodeUnmapped_accessOf {a : Word} (hglobal : ¬ a.toNat ≤ 0x002F) (hsock : a.extractLsb' 10 6 ≠ 0x01#6)
    (htx : a.extractLsb' 13 3 ≠ 0x2#3) (hrx : a.extractLsb' 13 3 ≠ 0x3#3) :
    AccessOf we a v (decodeUnmapped we a v) := by
  rw [ne_eq, extract_eq_iff, BitVec.toNat_ofNat] at hsock htx hrx
  have := a.isLt
  unfold decodeUnmapped
  repeat' with_reducible refine .ite (fun _ => ?_) fun _ => ?_
  all_goals exact .pick hv ⟨rfl, rfl⟩ ⟨rfl, rfl⟩ (append_low (by rw [BitVec.toNat_ofNat]; omega))

/-- R109: every internal access is the encoding of what it decodes to. -/
theorem decodeInternal_accessOf (a : Word) : AccessOf we a v (decodeInternal we a v) := by
  unfold decodeInternal
  split_ifs with hglobal hsock htx hrx
  · exact decodeGlobal_accessOf hv hglobal
  · have hregister := decodeSocket_accessOf hv (sockOfReg a) (regOffset a)
    rwa [Machine.sockAddr_fields hsock] at hregister
  · exact .pick hv ⟨rfl, rfl⟩ ⟨rfl, rfl⟩ (txAddr_fields htx)
  · exact .pick hv ⟨rfl, rfl⟩ ⟨rfl, rfl⟩ (rxAddr_fields hrx)
  · exact decodeUnmapped_accessOf hv hglobal hsock htx hrx

end

/-- The mode condition is of the HOST rows alone. -/
theorem fits_of_internal {i : Instr} (hi : i.level = .internal) (p : IndHostDecode) (ind : Bool) :
    i.fits p ind = true := by
  cases i with
  | hrdDirect | hwrDirect | hrdMrInd | hwrMrInd | hrdIdmAr0 | hwrIdmAr0 | hrdIdmAr1 | hwrIdmAr1 | hrdIdmDr
  | hwrIdmDr => cases hi
  | _ => rfl

/-! ### Host rows -/

@[simp] theorem shimSel_shimAddr (hi : BitVec 14) (sel : BitVec 2) : shimSel (shimAddr hi sel) = sel :=
  BitVec.extractLsb'_append_eq_right

@[simp] theorem shimHi_shimAddr (hi : BitVec 14) (sel : BitVec 2) : shimHi (shimAddr hi sel) = hi :=
  BitVec.extractLsb'_append_eq_left

/-- R112: a host address is its selector and the bits the selector ignores. -/
theorem shimAddr_fields (h : Word) : shimAddr (shimHi h) (shimSel h) = h := by
  have := h.isLt
  apply BitVec.eq_of_toNat_eq
  rw [shimAddr, append_toNat, shimHi, shimSel, extract_toNat, extract_toNat]
  omega

/-- The transaction is the encoding of the instruction, which is well formed and admits the addressing mode. -/
def Spells (p : IndHostDecode) (ind : Bool) (t : Transaction) (i : Instr) : Prop :=
  encode i = t ∧ i.wf = true ∧ i.fits p ind = true

theorem shimSel_eq_three {sel : BitVec 2} : sel ≠ 0#2 → sel ≠ 1#2 → sel ≠ 2#2 → sel = 3#2 := by
  revert sel; decide

theorem decodeHostRead_spells (p : IndHostDecode) (ind : Bool) (h : Word) :
    Spells p ind (.host (hostWord opRead h 0#8)) (decodeHostRead p ind h) := by
  obtain ⟨hi, sel, rfl⟩ : ∃ hi sel, shimAddr hi sel = h := ⟨_, _, shimAddr_fields h⟩
  simp only [decodeHostRead, shimSel_shimAddr, shimHi_shimAddr]
  split_ifs with hshim h0 h1 h2
  · subst h0; exact ⟨rfl, rfl, hshim⟩
  · subst h1; exact ⟨rfl, rfl, hshim⟩
  · subst h2; exact ⟨rfl, rfl, hshim⟩
  · obtain rfl := shimSel_eq_three h0 h1 h2
    exact ⟨rfl, rfl, hshim⟩
  · exact ⟨rfl, rfl, congrArg not (Bool.eq_false_iff.mpr hshim)⟩

theorem decodeHostWrite_spells (p : IndHostDecode) (ind : Bool) (h : Word) (v : Byte) :
    Spells p ind (.host (hostWord opWrite h v)) (decodeHostWrite p ind h v) := by
  obtain ⟨hi, sel, rfl⟩ : ∃ hi sel, shimAddr hi sel = h := ⟨_, _, shimAddr_fields h⟩
  simp only [decodeHostWrite, shimSel_shimAddr, shimHi_shimAddr]
  split_ifs with hshim h0 h1 h2
  · subst h0; exact ⟨rfl, rfl, hshim⟩
  · subst h1; exact ⟨rfl, rfl, hshim⟩
  · subst h2; exact ⟨rfl, rfl, hshim⟩
  · obtain rfl := shimSel_eq_three h0 h1 h2
    exact ⟨rfl, rfl, hshim⟩
  · exact ⟨rfl, rfl, congrArg not (Bool.eq_false_iff.mpr hshim)⟩

namespace Machine

/-- Settles O2: an accepted word is its fields, and each of them is kept by the instruction they select. -/
theorem encodeOfDecodeIsTheWord : Obligations.EncodeOfDecodeIsTheWord := by
  intro p ind t i hdec
  cases t with
  | host w =>
    obtain ⟨a, rfl, rfl⟩ | ⟨a, v, rfl, rfl⟩ | ⟨rfl, rfl⟩ | ⟨rfl, rfl⟩ := decodeHost_ok p ind hdec
    · exact decodeHostRead_spells p ind a
    · exact decodeHostWrite_spells p ind a v
    · exact ⟨rfl, rfl, rfl⟩
    · exact ⟨rfl, rfl, rfl⟩
  | internal w =>
    obtain ⟨we, a, v, hv, rfl, rfl⟩ := decodeInternalWord_ok hdec
    have haccess := decodeInternal_accessOf hv a
    exact ⟨haccess.word, haccess.wf, fits_of_internal (decodeInternal_level we a v) p ind⟩

end Machine

end Sys2Proof
end

section
/-! SUPPORT. The decoder inverts the encoder (spec/30_encoding.md R86 to R91, R100 to R112): every well-formed
instruction is read back from its own word in every mode its row admits. -/

namespace Sys2Proof

/-! ### Where the decoder sends an address (R109) -/

theorem decodeInternal_sockAddr (we : Bool) (n : SockId) (off : BitVec 8) (v : Byte) :
    decodeInternal we (sockAddr n off) v = decodeSocket we n off v := by
  have := n.isLt; have := off.isLt
  have hsock : (sockAddr n off).extractLsb' 10 6 = 0x01#6 := by
    rw [extract_eq_iff, sockAddr_toNat, BitVec.toNat_ofNat]
    omega
  rw [decodeInternal, if_neg (by rw [sockAddr_toNat]; omega), if_pos hsock, sockOfReg_sockAddr, regOffset_sockAddr]

theorem decodeInternal_txAddr (we : Bool) (n : SockId) (o : BitVec 11) (v : Byte) :
    decodeInternal we (txAddr n o) v = pick we (.rdTxbuf n o) (.wrTxbuf n o v) := by
  have := n.isLt; have := o.isLt; have haddr := txAddr_toNat n o
  rw [Machine.decodeInternal_tx we v (by omega) (by omega), sockOfBuf_txAddr, bufOffset_txAddr]

theorem decodeInternal_rxAddr (we : Bool) (n : SockId) (o : BitVec 11) (v : Byte) :
    decodeInternal we (rxAddr n o) v = pick we (.rdRxbuf n o) (.wrRxbuf n o v) := by
  have := n.isLt; have := o.isLt; have haddr := rxAddr_toNat n o
  rw [Machine.decodeInternal_rx we v (by omega) (by omega), sockOfBuf_rxAddr, bufOffset_rxAddr]

/-- R103: outside the global page, the socket blocks and the buffers. -/
theorem decodeInternal_unmapped (we : Bool) {a : Word} (v : Byte) (hglobal : 0x002F < a.toNat)
    (hsock : a.toNat / 2 ^ 10 ≠ 1) (hbuf : a.toNat / 2 ^ 14 ≠ 1) :
    decodeInternal we a v = decodeUnmapped we a v := by
  have := a.isLt
  have hs : a.extractLsb' 10 6 ≠ 0x01#6 := by rw [ne_eq, extract_eq_iff, BitVec.toNat_ofNat]; omega
  have ht : a.extractLsb' 13 3 ≠ 0x2#3 := by rw [ne_eq, extract_eq_iff, BitVec.toNat_ofNat]; omega
  have hr : a.extractLsb' 13 3 ≠ 0x3#3 := by rw [ne_eq, extract_eq_iff, BitVec.toNat_ofNat]; omega
  rw [decodeInternal, if_neg (by omega), if_neg hs, if_neg ht, if_neg hr]

/-- R103: the unmapped blocks of a socket's page. -/
theorem decodeSocket_unmapped :
    (∀ we n o v, decodeSocket we n (0x3#7 ++ o) v = pick we (.rdUnmapped15 n o) (.wrUnmapped15 n o v)) ∧
    (∀ we n o v, decodeSocket we n (0x2#6 ++ o) v = pick we (.rdUnmapped16 n o) (.wrUnmapped16 n o v)) ∧
    (∀ we n o v, decodeSocket we n (0x9#7 ++ o) v = pick we (.rdUnmapped17 n o) (.wrUnmapped17 n o v)) ∧
    (∀ we n o v, decodeSocket we n (0x5#6 ++ o) v = pick we (.rdUnmapped18 n o) (.wrUnmapped18 n o v)) ∧
    (∀ we n o v, decodeSocket we n (0x3#5 ++ o) v = pick we (.rdUnmapped19 n o) (.wrUnmapped19 n o v)) ∧
    (∀ we n o v, decodeSocket we n (0x15#7 ++ o) v = pick we (.rdUnmapped20 n o) (.wrUnmapped20 n o v)) ∧
    (∀ we n o v, decodeSocket we n (0xB#6 ++ o) v = pick we (.rdUnmapped21 n o) (.wrUnmapped21 n o v)) ∧
    (∀ we n o v, decodeSocket we n (0x3#4 ++ o) v = pick we (.rdUnmapped22 n o) (.wrUnmapped22 n o v)) ∧
    (∀ we n o v, decodeSocket we n (0x1#2 ++ o) v = pick we (.rdUnmapped23 n o) (.wrUnmapped23 n o v)) ∧
    (∀ we n o v, decodeSocket we n (0x1#1 ++ o) v = pick we (.rdUnmapped24 n o) (.wrUnmapped24 n o v)) := by
  refine ⟨?_, ?_, ?_, ?_, ?_, ?_, ?_, ?_, ?_, ?_⟩
  all_goals
    intro we n o v
    have := o.isLt
    unfold decodeSocket
    split
    case h_23 =>
      rw [append_toNat, BitVec.toNat_ofNat]
      simp (disch := omega) only [if_pos, if_neg]
      rw [BitVec.extractLsb'_append_eq_right]
    all_goals
      next h =>
      rw [append_toNat, BitVec.toNat_ofNat] at h
      omega

/-- R103: the unmapped blocks of the global page that the decoder reads by range. -/
theorem decodeInternal_globalUnmapped :
    (∀ we o v, decodeInternal we (0xC#15 ++ o) v = pick we (.rdUnmapped03 o) (.wrUnmapped03 o v)) ∧
    (∀ we o v, decodeInternal we (0x7#14 ++ o) v = pick we (.rdUnmapped04 o) (.wrUnmapped04 o v)) ∧
    (∀ we o v, decodeInternal we (0x2#12 ++ o) v = pick we (.rdUnmapped05 o) (.wrUnmapped05 o v)) := by
  refine ⟨?_, ?_, ?_⟩
  all_goals
    intro we o v
    have := o.isLt
    rw [decodeInternal, if_pos (by rw [append_toNat, BitVec.toNat_ofNat]; omega)]
    unfold decodeGlobal
    split
    case h_27 =>
      rw [append_toNat, BitVec.toNat_ofNat]
      simp (disch := omega) only [if_pos, if_neg]
      rw [BitVec.extractLsb'_append_eq_right]
    all_goals
      next h =>
      rw [append_toNat, BitVec.toNat_ofNat] at h
      omega

/-- R103: the unmapped blocks outside the register pages and the buffers. -/
theorem decodeInternal_outsideUnmapped :
    (∀ we o v, decodeInternal we (0x3#12 ++ o) v = pick we (.rdUnmapped06 o) (.wrUnmapped06 o v)) ∧
    (∀ we o v, decodeInternal we (0x1#10 ++ o) v = pick we (.rdUnmapped07 o) (.wrUnmapped07 o v)) ∧
    (∀ we o v, decodeInternal we (0x1#9 ++ o) v = pick we (.rdUnmapped08 o) (.wrUnmapped08 o v)) ∧
    (∀ we o v, decodeInternal we (0x1#8 ++ o) v = pick we (.rdUnmapped09 o) (.wrUnmapped09 o v)) ∧
    (∀ we o v, decodeInternal we (0x1#7 ++ o) v = pick we (.rdUnmapped10 o) (.wrUnmapped10 o v)) ∧
    (∀ we o v, decodeInternal we (0x1#5 ++ o) v = pick we (.rdUnmapped11 o) (.wrUnmapped11 o v)) ∧
    (∀ we o v, decodeInternal we (0x1#4 ++ o) v = pick we (.rdUnmapped12 o) (.wrUnmapped12 o v)) ∧
    (∀ we o v, decodeInternal we (0x1#3 ++ o) v = pick we (.rdUnmapped13 o) (.wrUnmapped13 o v)) ∧
    (∀ we o v, decodeInternal we (0x1#1 ++ o) v = pick we (.rdUnmapped14 o) (.wrUnmapped14 o v)) := by
  refine ⟨?_, ?_, ?_, ?_, ?_, ?_, ?_, ?_, ?_⟩
  all_goals
    intro we o v
    have := o.isLt
    rw [decodeInternal_unmapped we v (by rw [append_toNat, BitVec.toNat_ofNat]; omega)
      (by rw [append_toNat, BitVec.toNat_ofNat]; omega) (by rw [append_toNat, BitVec.toNat_ofNat]; omega)]
    unfold decodeUnmapped
    rw [append_toNat, BitVec.toNat_ofNat]
    simp (disch := omega) only [if_pos, if_neg]
    rw [BitVec.extractLsb'_append_eq_right]

theorem decodeCommand_invalid (n : SockId) {v : Byte} (hv : isCommandByte v = false) :
    decodeCommand n v = .cmdInvalid n v := by
  simp only [isCommandByte, Bool.or_eq_false_iff, beq_eq_false_iff_ne] at hv
  obtain ⟨⟨⟨⟨⟨⟨h1, h2⟩, h4⟩, h8⟩, h10⟩, h20⟩, h40⟩ := hv
  rw [decodeCommand, if_neg h1, if_neg h2, if_neg h4, if_neg h8, if_neg h10, if_neg h20, if_neg h40]

/-! ### The host rows of the shim (R112) -/

section

variable {p : IndHostDecode} {ind : Bool} {hi : BitVec 14} {sel : BitVec 2}
  (h : (ind && shimSelected p (shimAddr hi sel)) = true)

include h

theorem decodeHostRead_shim : decodeHostRead p ind (shimAddr hi sel) =
    if sel = 0#2 then .hrdMrInd hi else if sel = 1#2 then .hrdIdmAr0 hi
    else if sel = 2#2 then .hrdIdmAr1 hi else .hrdIdmDr hi := by
  rw [decodeHostRead, if_pos h, shimSel_shimAddr, shimHi_shimAddr]

theorem decodeHostWrite_shim (v : Byte) : decodeHostWrite p ind (shimAddr hi sel) v =
    if sel = 0#2 then .hwrMrInd hi v else if sel = 1#2 then .hwrIdmAr0 hi v
    else if sel = 2#2 then .hwrIdmAr1 hi v else .hwrIdmDr hi v := by
  rw [decodeHostWrite, if_pos h, shimSel_shimAddr, shimHi_shimAddr]

end

/-! ### The round trip -/

theorem decode_encode_of_access {i : Instr} {we : Bool} {a : Word} {v : Byte} (p : IndHostDecode) (ind : Bool)
    (hword : encode i = .internal (internalWord we a v)) (hv : we = false → v = 0#8)
    (hdec : decodeInternal we a v = i) : decode p ind (encode i) = .ok i := by
  rw [hword, decode_internalWord p ind a hv, hdec]

theorem decode_encode_of_socket {i : Instr} {we : Bool} {n : SockId} {off : BitVec 8} {v : Byte} (p : IndHostDecode)
    (ind : Bool) (hword : encode i = .internal (internalWord we (sockAddr n off) v)) (hv : we = false → v = 0#8)
    (hdec : decodeSocket we n off v = i) : decode p ind (encode i) = .ok i :=
  decode_encode_of_access p ind hword hv ((decodeInternal_sockAddr we n off v).trans hdec)

/-- An internal access decodes from its own encoding in every mode: the registers and commands by evaluating the
decoder at their address, the rows with free low bits by the equations of their block. -/
theorem decode_encode_internal {i : Instr} (hi : i.level = .internal) (hwf : i.wf = true) (p : IndHostDecode)
    (ind : Bool) : decode p ind (encode i) = .ok i := by
  obtain ⟨h03, h04, h05⟩ := decodeInternal_globalUnmapped
  obtain ⟨h06, h07, h08, h09, h10, h11, h12, h13, h14⟩ := decodeInternal_outsideUnmapped
  obtain ⟨h15, h16, h17, h18, h19, h20, h21, h22, h23, h24⟩ := decodeSocket_unmapped
  cases i with
  | hrdDirect | hwrDirect | hrdMrInd | hwrMrInd | hrdIdmAr0 | hwrIdmAr0 | hrdIdmAr1 | hwrIdmAr1 | hrdIdmDr
  | hwrIdmDr | tick | reset => cases hi
  | rdMr | wrMr | rdGwr0 | wrGwr0 | rdGwr1 | wrGwr1 | rdGwr2 | wrGwr2 | rdGwr3 | wrGwr3 | rdSubr0 | wrSubr0
  | rdSubr1 | wrSubr1 | rdSubr2 | wrSubr2 | rdSubr3 | wrSubr3 | rdShar0 | wrShar0 | rdShar1 | wrShar1 | rdShar2
  | wrShar2 | rdShar3 | wrShar3 | rdShar4 | wrShar4 | rdShar5 | wrShar5 | rdSipr0 | wrSipr0 | rdSipr1 | wrSipr1
  | rdSipr2 | wrSipr2 | rdSipr3 | wrSipr3 | rdIr | wrIr | rdImr | wrImr | rdRmsr | wrRmsr | rdTmsr | wrTmsr
  | rdUnmapped00 | wrUnmapped00 | rdUnmapped01 | wrUnmapped01 | rdUnmapped02 | wrUnmapped02 =>
    exact decode_encode_of_access p ind rfl (by simp) rfl
  | rdSnMr | wrSnMr | rdSnCr | rdSnIr | wrSnIr | rdSnSr | wrSnSr | rdSnPort0 | wrSnPort0 | rdSnPort1 | wrSnPort1
  | rdSnDipr0 | wrSnDipr0 | rdSnDipr1 | wrSnDipr1 | rdSnDipr2 | wrSnDipr2 | rdSnDipr3 | wrSnDipr3 | rdSnDport0
  | wrSnDport0 | rdSnDport1 | wrSnDport1 | rdSnTxFsr0 | wrSnTxFsr0 | rdSnTxFsr1 | wrSnTxFsr1 | rdSnTxRr0
  | wrSnTxRr0 | rdSnTxRr1 | wrSnTxRr1 | rdSnTxWr0 | wrSnTxWr0 | rdSnTxWr1 | wrSnTxWr1 | rdSnRxRsr0 | wrSnRxRsr0
  | rdSnRxRsr1 | wrSnRxRsr1 | rdSnRxRd0 | wrSnRxRd0 | rdSnRxRd1 | wrSnRxRd1 | cmdOpen | cmdListen | cmdConnect
  | cmdDiscon | cmdClose | cmdSend | cmdRecv =>
    exact decode_encode_of_socket p ind rfl (by simp) rfl
  | cmdInvalid n v =>
    have hcmd := decodeCommand_invalid n ((Bool.not_eq_true' _).mp hwf)
    exact decode_encode_of_socket p ind rfl nofun hcmd
  | rdTxbuf | wrTxbuf => exact decode_encode_of_access p ind rfl (by simp) (decodeInternal_txAddr _ _ _ _)
  | rdRxbuf | wrRxbuf => exact decode_encode_of_access p ind rfl (by simp) (decodeInternal_rxAddr _ _ _ _)
  | rdUnmapped03 o | wrUnmapped03 o => exact decode_encode_of_access p ind rfl (by simp) (h03 _ o _)
  | rdUnmapped04 o | wrUnmapped04 o => exact decode_encode_of_access p ind rfl (by simp) (h04 _ o _)
  | rdUnmapped05 o | wrUnmapped05 o => exact decode_encode_of_access p ind rfl (by simp) (h05 _ o _)
  | rdUnmapped06 o | wrUnmapped06 o => exact decode_encode_of_access p ind rfl (by simp) (h06 _ o _)
  | rdUnmapped07 o | wrUnmapped07 o => exact decode_encode_of_access p ind rfl (by simp) (h07 _ o _)
  | rdUnmapped08 o | wrUnmapped08 o => exact decode_encode_of_access p ind rfl (by simp) (h08 _ o _)
  | rdUnmapped09 o | wrUnmapped09 o => exact decode_encode_of_access p ind rfl (by simp) (h09 _ o _)
  | rdUnmapped10 o | wrUnmapped10 o => exact decode_encode_of_access p ind rfl (by simp) (h10 _ o _)
  | rdUnmapped11 o | wrUnmapped11 o => exact decode_encode_of_access p ind rfl (by simp) (h11 _ o _)
  | rdUnmapped12 o | wrUnmapped12 o => exact decode_encode_of_access p ind rfl (by simp) (h12 _ o _)
  | rdUnmapped13 o | wrUnmapped13 o => exact decode_encode_of_access p ind rfl (by simp) (h13 _ o _)
  | rdUnmapped14 o | wrUnmapped14 o => exact decode_encode_of_access p ind rfl (by simp) (h14 _ o _)
  | rdUnmapped15 n o | wrUnmapped15 n o => exact decode_encode_of_socket p ind rfl (by simp) (h15 _ n o _)
  | rdUnmapped16 n o | wrUnmapped16 n o => exact decode_encode_of_socket p ind rfl (by simp) (h16 _ n o _)
  | rdUnmapped17 n o | wrUnmapped17 n o => exact decode_encode_of_socket p ind rfl (by simp) (h17 _ n o _)
  | rdUnmapped18 n o | wrUnmapped18 n o => exact decode_encode_of_socket p ind rfl (by simp) (h18 _ n o _)
  | rdUnmapped19 n o | wrUnmapped19 n o => exact decode_encode_of_socket p ind rfl (by simp) (h19 _ n o _)
  | rdUnmapped20 n o | wrUnmapped20 n o => exact decode_encode_of_socket p ind rfl (by simp) (h20 _ n o _)
  | rdUnmapped21 n o | wrUnmapped21 n o => exact decode_encode_of_socket p ind rfl (by simp) (h21 _ n o _)
  | rdUnmapped22 n o | wrUnmapped22 n o => exact decode_encode_of_socket p ind rfl (by simp) (h22 _ n o _)
  | rdUnmapped23 n o | wrUnmapped23 n o => exact decode_encode_of_socket p ind rfl (by simp) (h23 _ n o _)
  | rdUnmapped24 n o | wrUnmapped24 n o => exact decode_encode_of_socket p ind rfl (by simp) (h24 _ n o _)

/-- The transaction with the encoding of an instruction decodes to it, in every mode that its row admits. -/
theorem decode_encode {i : Instr} {p : IndHostDecode} {ind : Bool} (hwf : i.wf = true) (hfit : i.fits p ind = true) :
    decode p ind (encode i) = .ok i := by
  cases i with
  | hrdMrInd | hrdIdmAr0 | hrdIdmAr1 | hrdIdmDr =>
    exact (decode_readWord p ind _).trans (congrArg Except.ok (decodeHostRead_shim hfit))
  | hwrMrInd | hwrIdmAr0 | hwrIdmAr1 | hwrIdmDr =>
    exact (decode_writeWord p ind _ _).trans (congrArg Except.ok (decodeHostWrite_shim hfit _))
  | hrdDirect h =>
    have hdirect : (ind && shimSelected p h) = false := (Bool.not_eq_true' _).mp hfit
    exact (decode_readWord p ind h).trans (congrArg Except.ok (if_neg (Bool.eq_false_iff.mp hdirect)))
  | hwrDirect h v =>
    have hdirect : (ind && shimSelected p h) = false := (Bool.not_eq_true' _).mp hfit
    exact (decode_writeWord p ind h v).trans (congrArg Except.ok (if_neg (Bool.eq_false_iff.mp hdirect)))
  | tick => exact decode_tickWord p ind
  | reset => exact decode_resetWord p ind
  | _ => exact decode_encode_internal rfl hwf p ind

namespace Machine

/-- Settles O1: a host row is read by its shim selector, an internal access by its address and byte. -/
theorem decodeOfEncodeIsTheInstruction : Obligations.DecodeOfEncodeIsTheInstruction :=
  fun _ _ _ => decode_encode

/-- Settles O3: each word is the encoding of its instruction, so it decodes to it. -/
theorem sampleWordsDecode : Obligations.SampleWordsDecode :=
  ⟨decode_encode (i := .hwrDirect 0x0000#16 0x03#8) rfl rfl, decode_encode (i := .hwrIdmAr0 0#14 0x00#8) rfl rfl,
    decode_encode (i := .hwrIdmDr 0#14 0xC0#8) rfl rfl, decode_encode (i := .hrdIdmAr1 0#14) rfl rfl,
    decode_encode (i := .tick) rfl rfl, decode_encode (i := .reset) rfl rfl, decode_encode (i := .rdIr) rfl rfl,
    decode_encode (i := .cmdSend 1) rfl rfl, decode_encode (i := .cmdInvalid 2 0x03#8) rfl rfl,
    decode_encode (i := .wrTxbuf 1 0x7FF#11 0x5A#8) rfl rfl⟩

end Machine

end Sys2Proof
end


section
/-! SUPPORT. The host bus (spec/40_bus_interface.md R111 to R123): a direct transaction is the internal access at its
address; the indirect shim reaches MR, the halves of the address register, and through the data register the internal
access there, which the auto-increment follows. -/

namespace Sys2Proof.Machine

/-! ### The host rows as internal accesses -/

section

variable (s : State)

theorem exec_internalRead (a : Word) : exec (decodeInternal false a 0#8) s = memRead a s :=
  exec_eq_execInternal (decodeInternal_level _ _ _) s

theorem exec_internalWrite (a : Word) (v : Byte) : exec (decodeInternal true a v) s = memWrite a v s :=
  exec_eq_execInternal (decodeInternal_level _ _ _) s

theorem exec_hrdDirect (h : Word) : exec (.hrdDirect h) s = memRead h s := rfl

theorem exec_hwrDirect (h : Word) (v : Byte) : exec (.hwrDirect h v) s = memWrite h v s := rfl

theorem exec_hrdIdmDr (hi : BitVec 14) :
    exec (.hrdIdmDr hi) s = afterAccess (autoInc (aiBit s.mr) false) (memRead s.idmAr s) := rfl

theorem exec_hwrIdmDr (hi : BitVec 14) (v : Byte) :
    exec (.hwrIdmDr hi v) s =
      afterAccess (autoInc (aiBit s.mr) (writeResets s.idmAr v || writeFaults s.idmAr v s)) (memWrite s.idmAr v s) :=
  rfl

theorem exec_wrMr (v : Byte) : exec (.wrMr v) s = memWrite 0x0000#16 v s := rfl

theorem memRead_mr : memRead 0x0000#16 s = .next (answerRead s.mr s) := rfl

/-- R135: address 0 is MR. -/
theorem memWrite_mr (v : Byte) :
    memWrite 0x0000#16 v s = .next (answerNone (if rstBit v then softReset s else { s with mr := v })) := rfl

end

/-- Settles O7: a direct row is the internal access at its address, and no internal access is refused. -/
theorem directTransactionsAreInternalAccesses : Obligations.DirectTransactionsAreInternalAccesses := by
  intro s h v
  rw [exec_hrdDirect, exec_hwrDirect, exec_internalRead, exec_internalWrite]
  obtain ⟨t, hread⟩ := memRead_next h s
  obtain ⟨u, hwrite⟩ := memWrite_next h v s
  exact ⟨⟨t, hread, hread⟩, u, hwrite, hwrite⟩

/-- Settles O8: selector 0 is the internal access at address 0, and the halves of the address register are by value. -/
theorem shimReachesModeAndAddressRegisters : Obligations.ShimReachesModeAndAddressRegisters := by
  intro s hi v
  refine ⟨memRead_mr s, fun hv => ?mrStored, rfl, ⟨_, _, rfl, rfl, toNat_halves s.idmAr⟩,
    ⟨_, rfl, withHi_toNat s.idmAr v⟩, ⟨_, rfl, withLo_toNat s.idmAr v⟩⟩
  case mrStored =>
    have hkeep : ¬ rstBit v = true := Bool.eq_false_iff.mp hv
    exact (memWrite_mr s v).trans (by rw [if_neg hkeep]; rfl)

/-! ### The data register, read (R118, R119) -/

/-- Settles O9: an internal read leaves the address register, so the increment is of the address it redirected to. -/
theorem dataRegisterReadRedirectsAndIncrements : Obligations.DataRegisterReadRedirectsAndIncrements := by
  intro s hi
  obtain ⟨b, d, hread⟩ := memRead_eq s.idmAr s
  refine ⟨_, (exec_internalRead s s.idmAr).trans hread, ?_⟩
  rw [exec_hrdIdmDr, hread, afterAccess, autoInc_eq, Bool.not_false, Bool.and_true]
  rfl

/-! ### What leaves the address register as it is -/

@[simp] theorem closeFd_idmAr (s : State) (fd : Option Fd) : (s.closeFd fd).idmAr = s.idmAr := by
  rw [closeFd_closing]

@[simp] theorem release_idmAr (n : SockId) (s : State) : (release n s).idmAr = s.idmAr :=
  closeFd_idmAr s _

@[simp] theorem disconnect_idmAr (n : SockId) (s : State) : (disconnect n s).idmAr = s.idmAr :=
  release_idmAr n _

@[simp] theorem raiseFault_idmAr (k : FaultKind) (s : State) : (raiseFault k s).idmAr = s.idmAr := by
  rw [raiseFault_eq]

@[simp] theorem tryBind_idmAr (n : SockId) (s : State) : (tryBind n s).idmAr = s.idmAr := by
  obtain ⟨-, -, heq⟩ | ⟨-, -, -, heq⟩ | ⟨-, -, -, heq⟩ := tryBind_cases n s <;> rw [heq]
  · rfl
  · exact disconnect_idmAr n _

@[simp] theorem writePort_idmAr (n : SockId) (w : Word) (s : State) : (writePort n w s).idmAr = s.idmAr := by
  unfold writePort
  split
  · exact tryBind_idmAr n _
  · rfl

@[simp] theorem openSocket_idmAr (kind : SockKind) (next : SockState) (n : SockId) (s : State) :
    (openSocket kind next n s).idmAr = s.idmAr := by
  unfold openSocket
  split
  · dsimp only
    split
    · exact tryBind_idmAr n _
    · rfl
  · rfl

@[simp] theorem listenBound_idmAr (n : SockId) (s : State) : (listenBound n s).idmAr = s.idmAr := by
  unfold listenBound
  split <;> rfl

@[simp] theorem connectBound_idmAr (n : SockId) (s : State) : (connectBound n s).idmAr = s.idmAr := by
  unfold connectBound
  split
  · rfl
  · rfl
  · exact disconnect_idmAr n _

@[simp] theorem udpSend_idmAr (n : SockId) (s : State) : (udpSend n s).idmAr = s.idmAr := by
  unfold udpSend
  split
  · exact raiseFault_idmAr _ s
  · rfl

/-- The two states have the same indirect address. -/
def State.SameAddress (s t : State) : Prop := t.idmAr = s.idmAr

theorem State.SameAddress.after_answerNone {s t : State} (h : s.SameAddress t) : s.SameAddress (answerNone t) := h

/-- Only the soft reset changes the indirect address: every other internal access leaves it. -/
theorem execInternal_sameAddress {i : Instr} (hi : ∀ v, i = .wrMr v → rstBit v = false) (s : State) :
    NextMeets s.SameAddress (execInternal i s) := by
  cases i with
  | wrMr v =>
    have hkeep : ¬ rstBit v = true := Bool.eq_false_iff.mp (hi v rfl)
    simp only [execInternal, execWrMr, if_neg hkeep]
    exact rfl
  | wrSnPort0 n v | wrSnPort1 n v => exact writePort_idmAr n _ s
  | cmdOpen n | cmdListen n | cmdConnect n =>
    refine State.SameAddress.after_answerNone ?_
    split_ifs <;> simp [State.SameAddress]
  | cmdClose n => exact release_idmAr n s
  | cmdDiscon n | cmdSend n | cmdRecv n =>
    refine State.SameAddress.after_answerNone ?_
    split <;> simp [State.SameAddress]
  | hrdDirect | hwrDirect | hrdMrInd | hwrMrInd | hrdIdmAr0 | hwrIdmAr0 | hrdIdmAr1 | hwrIdmAr1 | hrdIdmDr | hwrIdmDr
  | tick | reset => trivial
  | _ => exact rfl

/-- R101: only a write at address 0 is WR_MR, and with the byte it writes. -/
theorem decodeInternal_eq_wrMr {a : Word} {v w : Byte} (h : decodeInternal true a v = .wrMr w) :
    a = 0x0000#16 ∧ v = w := by
  have haccess := (decodeInternal_accessOf (we := true) (v := v) nofun a).word
  rw [h] at haccess
  have hword : internalWord true 0x0000#16 w = internalWord true a v := Transaction.internal.inj haccess
  constructor
  · simpa using (congrArg internalAddr hword).symm
  · simpa using (congrArg internalData hword).symm

theorem writeResets_iff (a : Word) (v : Byte) : writeResets a v = true ↔ a = 0x0000#16 ∧ rstBit v = true := by
  simp [writeResets]

theorem memWrite_sameAddress {a : Word} {v : Byte} (s : State) (hreset : writeResets a v = false) :
    NextMeets s.SameAddress (memWrite a v s) := by
  refine execInternal_sameAddress (fun w hw => Bool.eq_false_iff.mpr fun hrst => ?_) s
  obtain ⟨haddr, rfl⟩ := decodeInternal_eq_wrMr hw
  exact Bool.eq_false_iff.mp hreset ((writeResets_iff a v).mpr ⟨haddr, hrst⟩)

/-! ### The data register, written (R118, R119) -/

/-- A write of IDM_DR that neither resets nor faults: the internal write, then the auto-increment. -/
theorem exec_hwrIdmDr_next {s t : State} (hi : BitVec 14) {v : Byte} (hreset : writeResets s.idmAr v = false)
    (hfault : writeFaults s.idmAr v s = false) (hwrite : memWrite s.idmAr v s = .next t) :
    exec (.hwrIdmDr hi v) s = .next { t with idmAr := if aiBit s.mr then s.idmAr + 1#16 else s.idmAr } := by
  have haddr : t.idmAr = s.idmAr := (memWrite_sameAddress s hreset).of_eq hwrite
  rw [exec_hwrIdmDr, hwrite, hreset, hfault, afterAccess, autoInc_eq, haddr, Bool.or_false, Bool.not_false,
    Bool.and_true]

/-- A write of IDM_DR that resets or faults is the internal write alone. -/
theorem exec_hwrIdmDr_ended {s : State} (hi : BitVec 14) {v : Byte}
    (hended : (writeResets s.idmAr v || writeFaults s.idmAr v s) = true) :
    exec (.hwrIdmDr hi v) s = memWrite s.idmAr v s := by
  obtain ⟨t, hwrite⟩ := memWrite_next s.idmAr v s
  rw [exec_hwrIdmDr, hwrite, hended, afterAccess, autoInc_eq, Bool.not_true, Bool.and_false]
  rfl

theorem memWrite_send (n : SockId) (s : State) :
    memWrite (sockAddr n 0x01#8) 0x20#8 s = execCmdSend n s := by
  rw [memWrite, decodeInternal_sockAddr]
  rfl

theorem sendOverflows_iff (k : Socket) : sendOverflows k = true ↔ k.state = .udp ∧ 32 ≤ k.dgq.length := by
  rw [sendOverflows, Bool.and_eq_true, beq_iff_eq, decide_eq_true_iff, dgqCap]

theorem writeFaults_send (n : SockId) (s : State) :
    writeFaults (sockAddr n 0x01#8) 0x20#8 s = sendOverflows (s.sock n) := by
  simp [writeFaults]

/-- R196: SEND on a Udp socket with a full datagram queue. -/
theorem execCmdSend_overflow {n : SockId} {s : State} (hfull : sendOverflows (s.sock n) = true) :
    execCmdSend n s = .next { s with fault := some (s.fault.getD .dgqOverflow), busRdata := none } := by
  have hudp := ((sendOverflows_iff _).mp hfull).1
  simp only [execCmdSend, hudp, udpSend, if_pos hfull, raiseFault_eq]
  rfl

/-- Settles O10: whether the write ends the transaction says which of the two forms it takes. -/
theorem dataRegisterWriteRedirectsAndIncrements : Obligations.DataRegisterWriteRedirectsAndIncrements := by
  intro s hi v
  refine ⟨fun hreset hfault => ?redirected, fun haddr (hrst : rstBit v = true) => ?softReset,
    fun n haddr hsend hudp hlen => ?overflow⟩
  case redirected =>
    obtain ⟨t, hwrite⟩ := memWrite_next s.idmAr v s
    have hkeep : writeResets s.idmAr v = false :=
      Bool.eq_false_iff.mpr fun h => hreset ((writeResets_iff _ v).mp h)
    exact ⟨t, (exec_internalWrite s s.idmAr v).trans hwrite, exec_hwrIdmDr_next hi hkeep hfault hwrite⟩
  case softReset =>
    have hended : writeResets s.idmAr v = true := (writeResets_iff _ v).mpr ⟨haddr, hrst⟩
    rw [exec_hwrIdmDr_ended hi (by rw [hended, Bool.true_or]), exec_wrMr, haddr, memWrite_mr, if_pos hrst]
    exact ⟨_, rfl, rfl, rfl, rfl⟩
  case overflow =>
    have hfull : sendOverflows (s.sock n) = true := (sendOverflows_iff _).mpr ⟨hudp, hlen⟩
    have hended : writeFaults s.idmAr v s = true := by rw [haddr, hsend, writeFaults_send, hfull]
    calc exec (.hwrIdmDr hi v) s
      _ = memWrite s.idmAr v s := exec_hwrIdmDr_ended hi (by rw [hended, Bool.or_true])
      _ = execCmdSend n s := by rw [haddr, hsend, memWrite_send]
      _ = _ := execCmdSend_overflow hfull

/-! ### The worked burst (R123) -/

theorem run_succ_of_step (m : Host.Core) {k : Nat} {s t : m.State} (h : m.step s = .next t) :
    m.run (k + 1) s = m.run k t := by
  rw [Host.Core.run, h]

theorem run_succ {k : Nat} {s t : State} (h : step s = .next t) : core.run (k + 1) s = core.run k t :=
  run_succ_of_step core h

/-- In indirect mode the host addresses 1, 2 and 3 are the shim's under either decode parameter (R112). -/
theorem decode_shimWrite (p : IndHostDecode) (v : Byte) :
    decode p true (.host (hostWord 1#2 0x001#16 v)) = .ok (.hwrIdmAr0 0#14 v) ∧
    decode p true (.host (hostWord 1#2 0x002#16 v)) = .ok (.hwrIdmAr1 0#14 v) ∧
    decode p true (.host (hostWord 1#2 0x003#16 v)) = .ok (.hwrIdmDr 0#14 v) := by
  have hselected : ∀ sel, (true && shimSelected p (shimAddr 0#14 sel)) = true := by
    cases p <;> decide
  exact ⟨(decode_writeWord p true _ v).trans (congrArg Except.ok (decodeHostWrite_shim (hselected 1#2) v)),
    (decode_writeWord p true _ v).trans (congrArg Except.ok (decodeHostWrite_shim (hselected 2#2) v)),
    (decode_writeWord p true _ v).trans (congrArg Except.ok (decodeHostWrite_shim (hselected 3#2) v))⟩

/-- The state within the burst: the indirect address, SIPR and the transactions still to come. -/
def State.bursting (s : State) (a : Word) (ip : Ip4) (bus : List Transaction) : State :=
  { s with idmAr := a, sipr := ip, busIn := bus, busRdata := none }

section

variable {s : State} (hmr : s.mr = 0x03#8) {v : Byte} {rest : List Transaction}

include hmr

theorem step_indirect {t : Transaction} {i : Instr} (hbus : s.busIn = t :: rest)
    (hdec : decode s.params.indHostDecode true t = .ok i) : step s = exec i s.taken := by
  have hind : indBit s.mr = true := by rw [hmr]; rfl
  exact step_run s t rest i hbus (by rw [State.decodes, hind, hdec])

theorem step_writeAr0 :
    step { s with busIn := .host (hostWord 1#2 0x001#16 v) :: rest } =
      .next (s.bursting (withHi s.idmAr v) s.sipr rest) :=
  step_indirect (s := { s with busIn := .host (hostWord 1#2 0x001#16 v) :: rest }) hmr rfl (decode_shimWrite _ v).1

theorem step_writeAr1 {a : Word} {ip : Ip4} :
    step (s.bursting a ip (.host (hostWord 1#2 0x002#16 v) :: rest)) = .next (s.bursting (withLo a v) ip rest) :=
  step_indirect (s := s.bursting a ip _) hmr rfl (decode_shimWrite _ v).2.1

/-- A byte through the data register to an address of SIPR, and on to the address after it. -/
theorem step_writeDr {a : Word} {ip ip' : Ip4} (haddr : a ≠ 0x0000#16)
    (hfault : writeFaults a v (s.bursting a ip rest) = false)
    (hwrite : memWrite a v (s.bursting a ip rest) = .next (s.bursting a ip' rest)) :
    step (s.bursting a ip (.host (hostWord 1#2 0x003#16 v) :: rest)) = .next (s.bursting (a + 1#16) ip' rest) := by
  have hai : aiBit s.mr = true := by rw [hmr]; rfl
  have hkeep : writeResets a v = false := Bool.eq_false_iff.mpr fun h => haddr ((writeResets_iff a v).mp h).1
  have hexec : exec (.hwrIdmDr 0#14 v) (s.bursting a ip rest) =
      .next (s.bursting (if aiBit s.mr then a + 1#16 else a) ip' rest) :=
    exec_hwrIdmDr_next (s := s.bursting a ip rest) (t := s.bursting a ip' rest) 0#14 hkeep hfault hwrite
  rw [if_pos hai] at hexec
  exact (step_indirect (s := s.bursting a ip _) hmr rfl (decode_shimWrite _ v).2.2).trans hexec

end

/-- Settles O11: the first two writes set the address of SIPR, and the increments take the other four through it. -/
theorem burstThroughTheDataRegister : Obligations.BurstThroughTheDataRegister := by
  intro s hmr
  have haddr : withLo (withHi s.idmAr 0x00#8) 0x0F#8 = 0x000F#16 := by rw [withLo, hiByte_withHi]; rfl
  refine ⟨_, ?_, rfl⟩
  rw [run_succ (step_writeAr0 hmr), run_succ (step_writeAr1 hmr), haddr,
    run_succ (step_writeDr hmr (ip' := { s.sipr with e0 := 0xC0#8 }) (by decide) rfl rfl),
    run_succ (step_writeDr hmr (ip' := ⟨0xC0#8, 0xA8#8, s.sipr.e2, s.sipr.e3⟩) (by decide) rfl rfl),
    run_succ (step_writeDr hmr (ip' := ⟨0xC0#8, 0xA8#8, 0x00#8, s.sipr.e3⟩) (by decide) rfl rfl),
    run_succ (step_writeDr hmr (ip' := ⟨0xC0#8, 0xA8#8, 0x00#8, 0x02#8⟩) (by decide) rfl rfl)]
  rfl

end Sys2Proof.Machine
end

section
/-! SUPPORT. The register accesses (spec/41_register_access.md R131 to R152): a read answers a stored or computed byte
and changes nothing, a write of a stored register replaces one byte of it, every other write of these is ignored, and a
read of an unmapped address is a draw. -/

namespace Sys2Proof.Machine

/-! ### Buffer bytes (R149 to R152) -/

/-- A store of a buffer byte, as its frame: memory alone changes, and in it the one byte. -/
theorem exec_storesBuf {i : Instr} {s : State} {c : Nat} {v : Byte} (h : exec i s = .next (answerNone (s.setBuf c v))) :
    ∃ m, exec i s = .next { s with mem := m, busRdata := none } ∧
      ∀ a, ({ s with mem := m } : State).bufByte a = if a = c then v else s.bufByte a :=
  ⟨memSet s.mem c v, h, fun a => bufByte_setBuf s c a v⟩

/-- Settles O29: each access goes to the cell of its socket and offset, and a store replaces that byte alone. -/
theorem bufferBytesReadAndStore : Obligations.BufferBytesReadAndStore := by
  intro s n o v
  have hTxRead : exec (.rdTxbuf n o) s = .next (answerRead (s.bufByte (txCell n o.toNat)) s) := rfl
  have hRxRead : exec (.rdRxbuf n o) s = .next (answerRead (s.bufByte (rxCell n o.toNat)) s) := rfl
  have hTxWrite : exec (.wrTxbuf n o v) s = .next (answerNone (s.setBuf (txCell n o.toNat) v)) := rfl
  have hRxWrite : exec (.wrRxbuf n o v) s = .next (answerNone (s.setBuf (rxCell n o.toNat) v)) := rfl
  exact ⟨hTxRead, hRxRead, exec_storesBuf hTxWrite, exec_storesBuf hRxWrite⟩

/-! ### Halves of a socket register (R144 to R148) -/

/-- R216: up to the size of the buffer, the received size is held whole in 16 bits. -/
theorem rsrWord_toNat {k : Socket} (h : k.rxAvail ≤ bufSize) : (rsrWord k).toNat = k.rxAvail := by
  rw [rsrWord, BitVec.toNat_ofNat, Nat.mod_eq_of_lt (by rw [bufSize] at h; omega)]

/-- Settles O22: the two reads answer the halves of the register, and the received size is its own 16-bit word. -/
theorem socketPairReadsAnswerTheHalves : Obligations.SocketPairReadsAnswerTheHalves := by
  intro s n
  refine ⟨?port, ?dport, ?txRR, ?txWR, ?rxRD, ?rsr⟩
  case rsr =>
    refine ⟨hiByte (rsrWord (s.sock n)), loByte (rsrWord (s.sock n)), rfl, rfl, fun hheld => ?_⟩
    rw [← toNat_halves, rsrWord_toNat hheld]
  all_goals exact ⟨_, _, rfl, rfl, toNat_halves _⟩

/-- Settles O24: a half replaces its eight bits of the register and keeps the other eight; an octet is its own field. -/
theorem socketStoresReplaceOneByte : Obligations.SocketStoresReplaceOneByte := by
  intro s n v
  refine ⟨?dport0, ?dport1, ?txWR0, ?txWR1, ?rxRD0, ?rxRD1, ?dipr0, ?dipr1, ?dipr2, ?dipr3⟩
  case dport0 | txWR0 | rxRD0 => exact ⟨_, rfl, withHi_toNat _ v⟩
  case dport1 | txWR1 | rxRD1 => exact ⟨_, rfl, withLo_toNat _ v⟩
  case dipr0 | dipr1 | dipr2 | dipr3 => rfl

/-! ### The interrupt bits (R142) -/

/-- A bit of `Sn_IR` survives a write exactly when the byte written has 0 there. -/
theorem clearIr_getLsbD (ir : BitVec 5) (v : Byte) {i : Nat} (h : i < 5) :
    (clearIr ir v).getLsbD i = (ir.getLsbD i && !v.getLsbD i) := by
  simp [clearIr, h]

/-- Settles O25: the store leaves what the written ones do not clear. -/
theorem socketInterruptWriteOneClears : Obligations.SocketInterruptWriteOneClears :=
  fun s n v => ⟨clearIr (s.sock n).ir v, rfl, fun _ => clearIr_getLsbD (s.sock n).ir v⟩

/-- Settles O20: the five interrupt bits widen to a byte of the same value; the others are a stored field, or 0x00 for
Sn_CR. -/
theorem socketByteReads : Obligations.SocketByteReads := by
  intro s n
  have hwiden : ((s.sock n).ir.setWidth 8).toNat = (s.sock n).ir.toNat :=
    BitVec.toNat_setWidth_of_le (by decide)
  exact ⟨rfl, rfl, rfl, rfl, rfl, rfl, _, rfl, hwiden⟩

/-! ### The stored global registers (R135 to R139) -/

/-- Settles O12: each meaning is `answerRead` of the register's own field. -/
theorem globalReadsAnswerTheStoredByte : Obligations.GlobalReadsAnswerTheStoredByte := by
  intro s
  and_intros <;> rfl

/-- Settles O13: each meaning is `answerNone` of the state with the register's own field replaced. -/
theorem globalWritesStoreTheByte : Obligations.GlobalWritesStoreTheByte := by
  intro s v
  and_intros <;> rfl

/-! ### Ignored writes and unmapped reads (R133, R134, R137, R143, R146, R148, R169) -/

/-- Settles O18: each meaning is `answerNone` alone. -/
theorem readOnlyWritesChangeNothing : Obligations.ReadOnlyWritesChangeNothing := by
  intro s n v
  and_intros <;> intros <;> rfl

/-- An unmapped read, as its frame: some byte is answered and one draw is counted. -/
theorem exec_answersDraw {i : Instr} {a : Word} {s : State} (h : exec i s = .next (drawUnmapped a s)) :
    ∃ b, exec i s = .next { s with busRdata := some b, draws := s.draws + 1 } :=
  ⟨Config.unmappedRead s.draws a, h.trans (congrArg _ (drawUnmapped_eq a s))⟩

/-- Settles O19: in every block the meaning is the draw for the address read. -/
theorem unmappedReadsAnswerADraw : Obligations.UnmappedReadsAnswerADraw := by
  intro s n
  and_intros <;> intros <;> exact exec_answersDraw rfl

end Sys2Proof.Machine
end

section
/-! SUPPORT. The socket commands and the mode and port writes (spec/42_socket_commands.md R161 to R201). What such a
transaction does is told as `State.served`: its socket, the requests it issued and the answers left. Each shared
procedure has one rule per answer on that form, and a transaction runs by chaining the rules of its procedures. -/

namespace Sys2Proof.Machine

/-! ### A socket being served -/

/-- The state `s` within a transaction on socket `n`: the socket is now `k`, the requests `reqs` were issued (most
recent first), the answers `net` are left, and nothing else has changed. -/
def State.served (s : State) (n : SockId) (k : Socket) (reqs : List NetRequest) (net : List NetAnswer) : State :=
  { s with socks := s.socks.set n k, netOut := reqs ++ s.netOut, netIn := net }

section

variable (s : State) (n : SockId) (k l : Socket) (reqs : List NetRequest) (a : NetAnswer) (net : List NetAnswer)

/-- At the start of the transaction. -/
theorem served_start : s.served n (s.sock n) [] s.netIn = s := by
  simp [State.served, State.sock]

/-- At its end. -/
theorem answerNone_served : answerNone (s.served n k reqs net) = s.afterRequests n k reqs net := rfl

@[simp] theorem served_sock : (s.served n k reqs net).sock n = k := Quad.get_set_same _ _ _

@[simp] theorem served_sipr : (s.served n k reqs net).sipr = s.sipr := rfl

@[simp] theorem served_rawAnswer (q : NetRequest) : (s.served n k reqs (a :: net)).rawAnswer q = a := rfl

@[simp] theorem served_asked (q : NetRequest) :
    (s.served n k reqs (a :: net)).asked q = s.served n k (q :: reqs) net := rfl

@[simp] theorem served_setSock : (s.served n k reqs net).setSock n l = s.served n l reqs net := by
  simp [State.served, State.setSock]

@[simp] theorem served_closeFd (fd : Option Fd) :
    (s.served n k reqs net).closeFd fd = s.served n k (closing fd ++ reqs) net := by
  simp [closeFd_closing, State.served]

theorem setSock_eq_served : s.setSock n k = s.served n k [] s.netIn := rfl

/-- R190: the descriptor is closed, if there is one, and the bind and pending bookkeeping reset. -/
theorem release_served :
    release n (s.served n k reqs net) = s.served n k.released (closing k.fd ++ reqs) net := by
  simp [release]

/-- R166: a release with DISCON set. -/
theorem disconnect_served :
    disconnect n (s.served n k reqs net) = s.served n (k.raise .discon).released (closing k.fd ++ reqs) net := by
  rw [disconnect, State.raiseIr, served_sock, served_setSock, release_served]
  rfl

theorem bindRequest_served : bindRequest n (s.served n k reqs net) = .bind k.fd s.sipr k.port := by
  simp [bindRequest]

theorem connectRequest_served : connectRequest n (s.served n k reqs net) = .connect k.fd k.dip k.dport := by
  simp [connectRequest]

end

/-! ### The bind procedure (R166, R167) -/

/-- R174, R177: bind, and go on with `f` once the socket is bound. -/
def bindThen (n : SockId) (f : State → State) (s : State) : State :=
  if bindOk n s then f (tryBind n s) else tryBind n s

section

variable {s : State} {n : SockId} {k : Socket} {reqs : List NetRequest} {net : List NetAnswer}

theorem tryBind_ok (hb : k.bound = false) :
    tryBind n (s.served n k reqs (.ok :: net)) =
      s.served n { k with bound := true } (.bind k.fd s.sipr k.port :: reqs) net := by
  simp [tryBind, hb, bindRequest_served, answerOk]

theorem tryBind_fail (hb : k.bound = false) :
    tryBind n (s.served n k reqs (.fail :: net)) =
      s.served n (k.raise .discon).released (closing k.fd ++ .bind k.fd s.sipr k.port :: reqs) net := by
  simp [tryBind, hb, bindRequest_served, answerOk, disconnect_served]

/-- A bound socket asks nothing. -/
theorem bindThen_bound (f : State → State) (hb : k.bound = true) :
    bindThen n f (s.served n k reqs net) = f (s.served n k reqs net) := by
  simp [bindThen, bindOk, tryBind, hb]

theorem bindThen_ok (f : State → State) (hb : k.bound = false) :
    bindThen n f (s.served n k reqs (.ok :: net)) =
      f (s.served n { k with bound := true } (.bind k.fd s.sipr k.port :: reqs) net) := by
  simp [bindThen, bindOk, tryBind_ok hb, answerOk]

theorem bindThen_fail (f : State → State) (hb : k.bound = false) :
    bindThen n f (s.served n k reqs (.fail :: net)) =
      s.served n (k.raise .discon).released (closing k.fd ++ .bind k.fd s.sipr k.port :: reqs) net := by
  simp [bindThen, bindOk, hb, tryBind_fail hb, answerOk]

end

/-! ### The mode register (R163, R164) -/

theorem exec_wrSnMr (s : State) (n : SockId) (v : Byte) :
    exec (.wrSnMr n v) s = .next (answerNone (s.setSock n { (s.sock n) with mr := modeStored s.params v })) := rfl

theorem modeStored_accepted {p : Params} {v : Byte} (h : v ∈ p.snMrAccept) : modeStored p v = v :=
  if_pos (List.contains_iff_mem.mpr h)

theorem modeStored_refused {p : Params} {v : Byte} (h : v ∉ p.snMrAccept) : modeStored p v = 0x00#8 :=
  if_neg (mt List.contains_iff_mem.mp h)

/-- Settles O26: the filter stores the byte or 0x00, and the store is of the mode field alone. -/
theorem modeByteIsFiltered : Obligations.ModeByteIsFiltered := by
  intro s n v
  constructor
  · intro hin
    rw [exec_wrSnMr, modeStored_accepted hin]
    rfl
  · intro hout
    rw [exec_wrSnMr, modeStored_refused hout]
    rfl

/-! ### The source port (R165) -/

/-- R89: a byte written to one half of a register pair, the high half or the low. -/
def withHalf (hi : Bool) (w : Word) (v : Byte) : Word := if hi then withHi w v else withLo w v

theorem withHalf_toNat (hi : Bool) (w : Word) (v : Byte) :
    (withHalf hi w v).toNat = if hi then v.toNat * 256 + w.toNat % 256 else w.toNat / 256 * 256 + v.toNat := by
  cases hi
  · exact withLo_toNat w v
  · exact withHi_toNat w v

theorem exec_wrSnPort (s : State) (n : SockId) (hi : Bool) (v : Byte) :
    exec (if hi then .wrSnPort0 n v else .wrSnPort1 n v) s =
      .next (answerNone (writePort n (withHalf hi (s.sock n).port v) s)) := by
  cases hi <;> rfl

theorem bindArmed_iff (k : Socket) :
    k.bindArmed = true ↔ k.bwc = 1 ∧ k.fd.isSome = true ∧ k.bound = false := by
  have hcount : (k.bwc < 2 ∧ k.bwc + 1 = 2) ↔ k.bwc = 1 := by omega
  simp only [Socket.bindArmed, Bool.and_eq_true, decide_eq_true_eq, beq_iff_eq, Bool.not_eq_true', hcount]
  rw [and_assoc]

/-- A port write that triggers no bind. -/
theorem writePort_unarmed {s : State} {n : SockId} (w : Word) (h : (s.sock n).bindArmed = false) :
    writePort n w s = s.setSock n ((s.sock n).portWritten w) :=
  if_neg (Bool.eq_false_iff.mp h)

/-- The second port write of an unbound socket with a descriptor goes on to bind it. -/
theorem writePort_armed {s : State} {n : SockId} {f : Fd} (w : Word) (hbwc : (s.sock n).bwc = 1)
    (hfd : (s.sock n).fd = some f) (hb : (s.sock n).bound = false) :
    writePort n w s = tryBind n (s.served n { (s.sock n) with port := w, bwc := 2 } [] s.netIn) := by
  have harmed : (s.sock n).bindArmed = true := (bindArmed_iff _).mpr ⟨hbwc, by rw [hfd]; rfl, hb⟩
  rw [writePort, if_pos harmed, setSock_eq_served, Socket.portWritten, hbwc]
  rfl

/-- Settles O27: each disjunct keeps the trigger from being armed, and both halves are stored by one rule. -/
theorem portWriteStoresAndCounts : Obligations.PortWriteStoresAndCounts := by
  intro s n v hquiet
  have hunarmed : (s.sock n).bindArmed = false := by
    refine Bool.eq_false_iff.mpr fun harmed => ?_
    obtain ⟨hbwc, hfd, hb⟩ := (bindArmed_iff _).mp harmed
    obtain h | h | h := hquiet
    · exact h hbwc
    · simp [h] at hfd
    · simp [h] at hb
  have hwrite : ∀ hi, exec (if hi then .wrSnPort0 n v else .wrSnPort1 n v) s =
      .next (answerNone (s.setSock n ((s.sock n).portWritten (withHalf hi (s.sock n).port v)))) := fun hi => by
    rw [exec_wrSnPort, writePort_unarmed _ hunarmed]
  exact ⟨_, _, hwrite true, withHalf_toNat true _ v, hwrite false, withHalf_toNat false _ v⟩

/-- Settles O28: the armed write is the bind procedure on the stored port, answered `Ok`. -/
theorem secondPortWriteBinds : Obligations.SecondPortWriteBinds := by
  intro s n v f net hbwc hfd hb hi
  refine ⟨withHalf hi (s.sock n).port v, withHalf_toNat hi _ v, fun hnet => ?_⟩
  rw [exec_wrSnPort, writePort_armed _ hbwc hfd hb, hnet, tryBind_ok ?unbound, ← hfd, answerNone_served]
  case unbound => exact hb

/-! ### OPEN (R171 to R173) -/

/-- OPEN is admitted in Closed, with the protocol of a stream or a datagram socket. -/
theorem exec_cmdOpen {s : State} {n : SockId} {kind : SockKind} {next : SockState}
    (hclosed : (s.sock n).state = .closed) (hopens : opensAs (s.sock n) kind next) :
    exec (.cmdOpen n) s = .next (answerNone (openSocket kind next n s)) := by
  change execCmdOpen n s = _
  rw [execCmdOpen, if_neg (not_not.mpr hclosed)]
  obtain ⟨hp, rfl, rfl⟩ | ⟨hp, rfl, rfl⟩ := hopens
  · rw [if_pos hp]
  · rw [hp]; rfl

theorem exec_cmdOpen_ignored {s : State} {n : SockId}
    (h : (s.sock n).state ≠ .closed ∨ (protocol (s.sock n) ≠ 1#4 ∧ protocol (s.sock n) ≠ 2#4)) :
    exec (.cmdOpen n) s = .next (answerNone s) := by
  change execCmdOpen n s = _
  obtain hstate | ⟨hstream, hdgram⟩ := h
  · rw [execCmdOpen, if_pos hstate]
  · rw [execCmdOpen, if_neg hstream, if_neg hdgram, ite_self]

section

variable {s : State} {n : SockId} {net : List NetAnswer}

theorem openSocket_ok (kind : SockKind) (next : SockState) {f : Fd} (hfresh : ∀ m, (s.sock m).fd ≠ some f)
    (hnet : s.netIn = .okFd f :: net) :
    openSocket kind next n s =
      if (s.sock n).bwc = 2 then tryBind n (s.served n ((s.sock n).opened f next) [.socket kind] net)
      else s.served n ((s.sock n).opened f next) [.socket kind] net := by
  have hfd : answerSocket s (s.rawAnswer (.socket kind)) = some f :=
    (answerSocket_some _ _ _).mpr ⟨rawAnswer_cons s _ _ _ hnet, hfresh⟩
  have hasked : (s.asked (.socket kind)).setSock n ((s.sock n).opened f next) =
      s.served n ((s.sock n).opened f next) [.socket kind] net := by
    rw [setSock_eq_served, asked_netIn, hnet]
    rfl
  simp only [openSocket, hfd, hasked]

theorem openSocket_fail (kind : SockKind) (next : SockState) (hnet : s.netIn = .fail :: net) :
    openSocket kind next n s = s.served n (s.sock n) [.socket kind] net := by
  have hnone : answerSocket s (s.rawAnswer (.socket kind)) = none := by
    rw [rawAnswer_cons s _ _ _ hnet]
    rfl
  have hasked : s.asked (.socket kind) = s.served n (s.sock n) [.socket kind] net := by
    rw [← served_asked s n _ [] .fail, ← hnet, served_start]
  simp only [openSocket, hnone, hasked]

end

/-- Settles O32: with a fresh token the socket is opened, and no bind follows. -/
theorem openCreatesTheDescriptor : Obligations.OpenCreatesTheDescriptor := by
  intro s n kind next f net hclosed hopens hbwc hfresh hnet
  rw [exec_cmdOpen hclosed hopens, openSocket_ok kind next hfresh hnet, if_neg hbwc, answerNone_served]
  rfl

/-- Settles O33: the opened socket goes on to the bind procedure, answered `Ok`. -/
theorem openBindsAfterTwoPortWrites : Obligations.OpenBindsAfterTwoPortWrites := by
  intro s n kind next f net hclosed hopens hbwc hb hfresh hnet
  rw [exec_cmdOpen hclosed hopens, openSocket_ok kind next hfresh hnet, if_pos hbwc, tryBind_ok ?unbound,
    answerNone_served]
  case unbound => exact hb
  rfl

/-- Settles O34: the failed request leaves the socket that was there. -/
theorem openFailureIsSilent : Obligations.OpenFailureIsSilent := by
  intro s n kind next net hclosed hopens hnet
  rw [exec_cmdOpen hclosed hopens, openSocket_fail kind next hnet, answerNone_served]

/-! ### LISTEN (R174, R175) and CONNECT (R177) -/

section

variable {s : State} {n : SockId}

theorem exec_cmdListen (hinit : (s.sock n).state = .init) :
    exec (.cmdListen n) s = .next (answerNone (bindThen n (listenBound n) (s.served n (s.sock n) [] s.netIn))) := by
  change execCmdListen n s = _
  rw [execCmdListen, if_neg (not_not.mpr hinit), served_start]
  rfl

theorem exec_cmdConnect (hinit : (s.sock n).state = .init) :
    exec (.cmdConnect n) s = .next (answerNone (bindThen n (connectBound n) (s.served n (s.sock n) [] s.netIn))) := by
  change execCmdConnect n s = _
  rw [execCmdConnect, if_neg (not_not.mpr hinit), served_start]
  rfl

theorem exec_cmdListen_ignored (h : (s.sock n).state ≠ .init) : exec (.cmdListen n) s = .next (answerNone s) := by
  change execCmdListen n s = _
  rw [execCmdListen, if_pos h]

theorem exec_cmdConnect_ignored (h : (s.sock n).state ≠ .init) : exec (.cmdConnect n) s = .next (answerNone s) := by
  change execCmdConnect n s = _
  rw [execCmdConnect, if_pos h]

end

section

variable (s : State) (n : SockId) (k : Socket) (reqs : List NetRequest) (net : List NetAnswer)

theorem listenBound_ok :
    listenBound n (s.served n k reqs (.ok :: net)) =
      s.served n { k with state := .listen } (.listen k.fd :: reqs) net := by
  simp [listenBound, answerOk]

theorem listenBound_fail :
    listenBound n (s.served n k reqs (.fail :: net)) = s.served n k (.listen k.fd :: reqs) net := by
  simp [listenBound, answerOk]

theorem connectBound_ok :
    connectBound n (s.served n k reqs (.ok :: net)) =
      s.served n { (k.raise .con) with state := .established } (.connect k.fd k.dip k.dport :: reqs) net := by
  simp [connectBound, connectRequest_served, answerConnect]

theorem connectBound_inProgress :
    connectBound n (s.served n k reqs (.inProgress :: net)) =
      s.served n { k with state := .connecting } (.connect k.fd k.dip k.dport :: reqs) net := by
  simp [connectBound, connectRequest_served, answerConnect]

theorem connectBound_fail :
    connectBound n (s.served n k reqs (.fail :: net)) =
      s.served n (k.raise .discon).released (closing k.fd ++ .connect k.fd k.dip k.dport :: reqs) net := by
  simp [connectBound, connectRequest_served, answerConnect, disconnect_served]

end

/-- Settles O36: a bound socket goes straight to `NetListen`, an unbound one by the bind procedure. -/
theorem listenOfABoundSocket : Obligations.ListenOfABoundSocket := by
  intro s n net hinit
  rw [exec_cmdListen hinit]
  refine ⟨fun hb => ?bound, fun hb => ?unbound⟩
  case bound =>
    rw [bindThen_bound _ hb]
    refine ⟨fun hnet => ?ok, fun hnet => ?fail⟩
    case ok => rw [hnet, listenBound_ok, answerNone_served]
    case fail => rw [hnet, listenBound_fail, answerNone_served]
  case unbound =>
    refine ⟨fun hnet => ?ok, fun hnet => ?fail⟩
    case ok => rw [hnet, bindThen_ok _ hb, listenBound_ok, answerNone_served]
    case fail => rw [hnet, bindThen_ok _ hb, listenBound_fail, answerNone_served]

/-- Settles O37: at each of the four places the bind procedure answers `Fail`, which disconnects the socket. -/
theorem bindFailureDisconnects : Obligations.BindFailureDisconnects := by
  intro s n net hb
  refine ⟨fun hinit hnet => ⟨?listen, ?connect⟩, fun f hi v w hbwc hfd hnet hw => ?port,
    fun kind next f hclosed hopens hbwc hfresh hnet => ?opened⟩
  case listen => rw [exec_cmdListen hinit, hnet, bindThen_fail _ hb, answerNone_served]; rfl
  case connect => rw [exec_cmdConnect hinit, hnet, bindThen_fail _ hb, answerNone_served]; rfl
  case port =>
    have hhalf : withHalf hi (s.sock n).port v = w :=
      BitVec.eq_of_toNat_eq ((withHalf_toNat hi _ v).trans hw.symm)
    rw [exec_wrSnPort, hhalf, writePort_armed w hbwc hfd hb, hnet, tryBind_fail ?unbound, hfd, answerNone_served]
    case unbound => exact hb
    rfl
  case opened =>
    rw [exec_cmdOpen hclosed hopens, openSocket_ok kind next hfresh hnet, if_pos hbwc, tryBind_fail ?unbound,
      answerNone_served]
    case unbound => exact hb
    rfl

/-- Settles O38: a bound socket takes the three answers of `NetConnect`, an unbound one after the bind procedure. -/
theorem connectTakesItsAnswer : Obligations.ConnectTakesItsAnswer := by
  intro s n net hinit
  rw [exec_cmdConnect hinit]
  refine ⟨fun hb => ?bound, fun hb => ?unbound⟩
  case bound =>
    rw [bindThen_bound _ hb]
    refine ⟨fun hnet => ?ok, fun hnet => ?inProgress, fun hnet => ?fail⟩
    case ok => rw [hnet, connectBound_ok, answerNone_served]; rfl
    case inProgress => rw [hnet, connectBound_inProgress, answerNone_served]
    case fail => rw [hnet, connectBound_fail, answerNone_served]; rfl
  case unbound =>
    refine ⟨fun hnet => ?ok, fun hnet => ?inProgress, fun hnet => ?fail⟩
    case ok => rw [hnet, bindThen_ok _ hb, connectBound_ok, answerNone_served]; rfl
    case inProgress => rw [hnet, bindThen_ok _ hb, connectBound_inProgress, answerNone_served]
    case fail => rw [hnet, bindThen_ok _ hb, connectBound_fail, answerNone_served]; rfl

/-! ### DISCON (R182) and CLOSE (R186) -/

section

variable {s : State} {n : SockId}

theorem exec_cmdDiscon (h : (s.sock n).state = .established ∨ (s.sock n).state = .closeWait) :
    exec (.cmdDiscon n) s = .next (answerNone (disconnect n s)) := by
  change execCmdDiscon n s = _
  obtain h | h := h <;> simp only [execCmdDiscon, h]

theorem exec_cmdDiscon_ignored (hest : (s.sock n).state ≠ .established) (hwait : (s.sock n).state ≠ .closeWait) :
    exec (.cmdDiscon n) s = .next (answerNone s) := by
  change execCmdDiscon n s = _
  rw [execCmdDiscon]
  split
  · exact absurd ‹_› hest
  · exact absurd ‹_› hwait
  all_goals rfl

theorem exec_cmdClose : exec (.cmdClose n) s = .next (answerNone (release n s)) := rfl

end

/-- Settles O39: the disconnect procedure runs on the socket as it stands. -/
theorem disconReleasesWithItsBit : Obligations.DisconReleasesWithItsBit := by
  intro s n hconnected
  have hrun := disconnect_served s n (s.sock n) [] s.netIn
  rw [served_start, List.append_nil] at hrun
  rw [exec_cmdDiscon hconnected, hrun, answerNone_served]
  rfl

/-- Settles O40: the release procedure runs on the socket as it stands. -/
theorem closeReleasesFromEveryState : Obligations.CloseReleasesFromEveryState := by
  intro s n
  have hrun := release_served s n (s.sock n) [] s.netIn
  rw [served_start, List.append_nil] at hrun
  rw [exec_cmdClose, hrun, answerNone_served]
  rfl

/-! ### SEND (R194 to R197) -/

/-- R195: the advance of a ring pointer, modulo 2^16. -/
theorem advance_toNat (p q : Word) : (p - q).toNat = (p.toNat + 65536 - q.toNat) % 65536 := by
  have := q.isLt
  rw [BitVec.toNat_sub]
  omega

section

variable {s : State} {n : SockId}

theorem exec_cmdSend_established (h : (s.sock n).state = .established) :
    exec (.cmdSend n) s = .next (answerNone (s.setSock n { (s.sock n) with writePending := true })) := by
  change execCmdSend n s = _
  simp only [execCmdSend, h]

theorem exec_cmdSend_udp (h : (s.sock n).state = .udp) (hroom : (s.sock n).dgq.length < 32) :
    exec (.cmdSend n) s = .next (answerNone (s.setSock n (s.sock n).datagramQueued)) := by
  change execCmdSend n s = _
  have hfits : ¬ sendOverflows (s.sock n) = true := fun hfull =>
    Nat.not_le.mpr hroom ((sendOverflows_iff _).mp hfull).2
  simp only [execCmdSend, h, udpSend, if_neg hfits]

theorem exec_cmdSend_ignored (hudp : (s.sock n).state ≠ .udp) (hest : (s.sock n).state ≠ .established) :
    exec (.cmdSend n) s = .next (answerNone s) := by
  change execCmdSend n s = _
  rw [execCmdSend]
  split
  · exact absurd ‹_› hest
  · exact absurd ‹_› hudp
  all_goals rfl

end

/-- Settles O41: the queued length is the advance of the write pointer since the last SEND. -/
theorem sendRequestsAFlush : Obligations.SendRequestsAFlush :=
  fun _ _ => ⟨exec_cmdSend_established, fun hudp hroom => ⟨_, exec_cmdSend_udp hudp hroom, advance_toNat _ _⟩⟩

/-- Settles O42: a full queue overflows, and the model fault raised is the first one. -/
theorem sendOverflowRaisesTheModelFault : Obligations.SendOverflowRaisesTheModelFault := by
  intro s n hudp hlen
  have hfault : exec (.cmdSend n) s = .next { s with fault := some (s.fault.getD .dgqOverflow), busRdata := none } :=
    execCmdSend_overflow ((sendOverflows_iff _).mpr ⟨hudp, hlen.ge⟩)
  constructor
  · intro hnone
    rw [hfault, hnone]
    rfl
  · intro k hk
    rw [hfault, hk, Option.getD_some, ← hk]

/-! ### RECV (R199 to R201) -/

section

variable {s : State} {n : SockId}

theorem exec_cmdRecv
    (h : (s.sock n).state = .udp ∨ (s.sock n).state = .established ∨ (s.sock n).state = .closeWait) :
    exec (.cmdRecv n) s = .next (answerNone (s.setSock n (s.sock n).received)) := by
  change execCmdRecv n s = _
  obtain h | h | h := h <;> simp only [execCmdRecv, h]

theorem exec_cmdRecv_ignored (hudp : (s.sock n).state ≠ .udp) (hest : (s.sock n).state ≠ .established)
    (hwait : (s.sock n).state ≠ .closeWait) : exec (.cmdRecv n) s = .next (answerNone s) := by
  change execCmdRecv n s = _
  rw [execCmdRecv]
  split
  · exact absurd ‹_› hudp
  · exact absurd ‹_› hest
  · exact absurd ‹_› hwait
  all_goals rfl

end

theorem received_eq (k : Socket) : k.received = { k with
    oldRxRD := k.rxRD
    rxAvail := recvLeft k
    ir := if recvLeft k = 0 then k.ir else k.ir ||| irMask .recv } := by
  unfold Socket.received
  split
  · next hleft => rw [if_neg hleft.ne']; rfl
  · next hnone => rw [if_pos (Nat.eq_zero_of_not_pos hnone)]

@[simp] theorem received_state (k : Socket) : k.received.state = k.state := by
  rw [received_eq]

/-- After RECV the pointer has not advanced, so there is nothing more to commit. -/
theorem recvLeft_received (k : Socket) : recvLeft k.received = recvLeft k := by
  rw [received_eq, recvLeft]
  simp

/-- A second RECV commits nothing and finds the bit as the first one left it. -/
theorem received_received (k : Socket) : k.received.received = k.received := by
  rw [received_eq k.received, recvLeft_received, received_eq k]
  split <;> simp [BitVec.or_assoc]

/-- Settles O43: RECV replaces the socket by `received`, which is idempotent. -/
theorem recvCommitsTheAdvance : Obligations.RecvCommitsTheAdvance := by
  intro s n hadmits
  have hagain : (answerNone (s.setSock n (s.sock n).received)).sock n = (s.sock n).received :=
    sock_setSock_same s n _
  refine ⟨(s.sock n).received, _, _, exec_cmdRecv hadmits, rfl, ?committed, exec_cmdRecv ?admits, ?second⟩
  case committed =>
    rw [← advance_toNat]
    simp only [received_eq]
    rfl
  case admits => rwa [hagain, received_state]
  case second => rw [answerNone_sock, sock_setSock_same, hagain, received_received]

/-! ### Commands that are not admitted (R162, R169) -/

theorem exec_invalidCommand {v : Byte} (s : State) (n : SockId) (hv : isCommandByte v = false) :
    exec (decodeInternal true (sockAddr n 0x01#8) v) s = .next (answerNone s) := by
  have hdec : decodeInternal true (sockAddr n 0x01#8) v = .cmdInvalid n v :=
    (decodeInternal_sockAddr true n 0x01#8 v).trans (decodeCommand_invalid n hv)
  rw [hdec]
  rfl

/-- Settles O35: outside its states of R162 each command is ignored, and so is a byte that is no command. -/
theorem misplacedCommandsAreIgnored : Obligations.MisplacedCommandsAreIgnored :=
  fun s n _ => ⟨exec_cmdOpen_ignored, fun h => ⟨exec_cmdListen_ignored h, exec_cmdConnect_ignored h⟩,
    exec_cmdDiscon_ignored, exec_cmdSend_ignored, exec_cmdRecv_ignored, exec_invalidCommand s n⟩

end Sys2Proof.Machine
end

section
/-! SUPPORT. The ring buffers (spec/43_ring_buffers.md R211 to R223): the free TX space that a read answers is 2048 less
the promised bytes, and 0 when more are promised. -/

namespace Sys2Proof.Machine

/-! ### The free TX space (R213, R146) -/

/-- R213: the free space is at most the size of the buffer, so 16 bits hold it whole. -/
theorem fsrWord_toNat (k : Socket) : (fsrWord k).toNat = txFree k := by
  have hfits : txFree k < 2 ^ 16 := (txFree_le k).trans_lt (by decide)
  rw [fsrWord, BitVec.toNat_ofNat, Nat.mod_eq_of_lt hfits]

/-- Settles O23: the two reads answer the halves of the free space, and the difference of `txFree_eq` is cut off at 0 when
more bytes are promised than the buffer has (C7). -/
theorem transmitFreeSpaceIsClamped : Obligations.TransmitFreeSpaceIsClamped := by
  intro s n
  have hread : (hiByte (fsrWord (s.sock n))).toNat * 256 + (loByte (fsrWord (s.sock n))).toNat =
      bufSize - txUsed (s.sock n) := by
    rw [← toNat_halves, fsrWord_toNat, txFree_eq]
  refine ⟨_, _, rfl, rfl, fun _ => ?within, fun habove => ?above⟩
  case within => exact hread
  case above => exact hread.trans (Nat.sub_eq_zero_of_le (Nat.le_of_lt habove))

end Sys2Proof.Machine
end

section
/-! SUPPORT. What a turn of a tick can do (spec/44_multiplexer.md R241 to R262): it changes its own socket, its RX
buffer and the network side, or it raises DGRAM_TOO_LONG. `State.TurnFrame n` is that frame; every sub-step is within
it, and `State.TickFrame` is the frame of the turns together. -/

namespace Sys2Proof.Machine

/-! ### One socket -/

/-- R260: what a tick leaves of the fields of a socket. -/
structure Socket.TickFrame (p : Params) (k l : Socket) : Prop where
  mr : l.mr = k.mr := by rfl
  port : l.port = k.port := by rfl
  txWR : l.txWR = k.txWR := by rfl
  rxRD : l.rxRD = k.rxRD := by rfl
  oldRxRD : l.oldRxRD = k.oldRxRD := by rfl
  lastSendMark : l.lastSendMark = k.lastSendMark := by rfl
  dest : p.acceptUpdatesDest = false → l.dip = k.dip ∧ l.dport = k.dport := by exact fun _ => ⟨rfl, rfl⟩
  bound : l.bound = k.bound ∨ l.bound = false := by exact .inl rfl
  bwc : l.bwc = k.bwc ∨ l.bwc = 0 := by exact .inl rfl

namespace Socket.TickFrame

variable {p : Params} {k l j : Socket}

theorem refl (p : Params) (k : Socket) : k.TickFrame p k where

theorem trans (h : k.TickFrame p l) (g : l.TickFrame p j) : k.TickFrame p j where
  mr := g.mr.trans h.mr
  port := g.port.trans h.port
  txWR := g.txWR.trans h.txWR
  rxRD := g.rxRD.trans h.rxRD
  oldRxRD := g.oldRxRD.trans h.oldRxRD
  lastSendMark := g.lastSendMark.trans h.lastSendMark
  dest := fun hp => ⟨(g.dest hp).1.trans (h.dest hp).1, (g.dest hp).2.trans (h.dest hp).2⟩
  bound := g.bound.elim (fun hg => h.bound.imp hg.trans hg.trans) .inr
  bwc := g.bwc.elim (fun hg => h.bwc.imp hg.trans hg.trans) .inr

theorem released (p : Params) (k : Socket) : k.TickFrame p k.released where
  bound := .inr rfl
  bwc := .inr rfl

theorem accepted (p : Params) (k : Socket) (fd : Fd) (ip : Ip4) (port : Word) :
    k.TickFrame p (k.accepted p fd ip port) where
  dest := fun hp => by simp [Socket.accepted, hp]

theorem shortSend (p q : Params) (k : Socket) : k.TickFrame p (k.shortSend q) := by
  unfold Socket.shortSend
  split
  · exact { }
  · exact { }

theorem flushDone (p : Params) (k : Socket) : k.TickFrame p k.flushDone := by
  unfold Socket.flushDone
  split
  · exact { }
  · exact { }

end Socket.TickFrame

/-! ### One turn (R262) -/

/-- What the turn of socket `n` in a tick leaves: all but its own socket, its own RX bytes, the requests and the
answers (R260, R262). -/
structure State.TurnFrame (n : SockId) (s t : State) : Prop where
  rest : ∃ k mem netIn netOut,
    t = { s with socks := s.socks.set n k, mem := mem, netIn := netIn, netOut := netOut }
  sock : (s.sock n).TickFrame s.params (t.sock n)
  bytes : ∀ a, (∀ o, o < bufSize → a ≠ rxCell n o) → t.bufByte a = s.bufByte a

namespace State.TurnFrame

variable {n : SockId} {s t u : State}

theorem refl (n : SockId) (s : State) : s.TurnFrame n s where
  rest := ⟨s.sock n, s.mem, s.netIn, s.netOut, by rw [State.sock, Quad.set_get]⟩
  sock := .refl _ _
  bytes := fun _ _ => rfl

theorem params (h : s.TurnFrame n t) : t.params = s.params := by
  obtain ⟨k, mem, netIn, netOut, rfl⟩ := h.rest
  rfl

theorem fault (h : s.TurnFrame n t) : t.fault = s.fault := by
  obtain ⟨k, mem, netIn, netOut, rfl⟩ := h.rest
  rfl

theorem sock_other (h : s.TurnFrame n t) {m : SockId} (hm : m ≠ n) : t.sock m = s.sock m := by
  obtain ⟨k, mem, netIn, netOut, rfl⟩ := h.rest
  exact Quad.get_set_other _ _ _ _ hm

theorem trans (h : s.TurnFrame n t) (g : t.TurnFrame n u) : s.TurnFrame n u where
  rest := by
    obtain ⟨k, mem, netIn, netOut, rfl⟩ := h.rest
    obtain ⟨l, mem', netIn', netOut', rfl⟩ := g.rest
    exact ⟨l, mem', netIn', netOut', by rw [Quad.set_set]⟩
  sock := h.sock.trans (h.params ▸ g.sock)
  bytes := fun a ha => (g.bytes a ha).trans (h.bytes a ha)

/-! The operations a turn is made of. -/

theorem of_netOnly (netIn : List NetAnswer) (netOut : List NetRequest) :
    s.TurnFrame n { s with netIn := netIn, netOut := netOut } where
  rest := ⟨s.sock n, s.mem, netIn, netOut, by rw [State.sock, Quad.set_get]⟩
  sock := .refl _ _
  bytes := fun _ _ => rfl

theorem asked (h : s.TurnFrame n t) (q : NetRequest) : s.TurnFrame n (t.asked q) := h.trans (of_netOnly _ _)

theorem closeFd (h : s.TurnFrame n t) (fd : Option Fd) : s.TurnFrame n (t.closeFd fd) :=
  h.trans (by rw [closeFd_closing]; exact of_netOnly _ _)

theorem setSock (h : s.TurnFrame n t) {k : Socket} (hk : (t.sock n).TickFrame t.params k) :
    s.TurnFrame n (t.setSock n k) :=
  h.trans
    { rest := ⟨k, t.mem, t.netIn, t.netOut, rfl⟩
      sock := by rw [sock_setSock_same]; exact hk
      bytes := fun _ _ => rfl }

theorem raiseIr (h : s.TurnFrame n t) (b : IrBit) : s.TurnFrame n (t.raiseIr n b) := h.setSock { }

theorem release (h : s.TurnFrame n t) : s.TurnFrame n (release n t) :=
  (h.closeFd _).setSock (by rw [closeFd_sock]; exact .released _ _)

theorem disconnect (h : s.TurnFrame n t) : s.TurnFrame n (disconnect n t) := (h.raiseIr _).release

/-- A fill writes inside the RX buffer of its own socket. -/
theorem rxWrite (h : s.TurnFrame n t) (o : Nat) (b : List Byte) : s.TurnFrame n (rxWrite n o b t) := by
  refine h.trans ⟨?rest, ?sock, fun a ha => ?bytes⟩
  case rest =>
    obtain ⟨m, hm⟩ := rxWrite_eq n o b t
    exact ⟨t.sock n, m, t.netIn, t.netOut, by rw [hm, State.sock, Quad.set_get]⟩
  case sock => rw [rxWrite_sock]; exact .refl _ _
  case bytes => exact rxWrite_bufByte_other n o b t a fun i _ => ha _ (Nat.mod_lt _ (by decide))

theorem rxAppend (h : s.TurnFrame n t) (b : List Byte) : s.TurnFrame n (rxAppend n b t) :=
  (h.rxWrite _ b).setSock (by rw [rxWrite_sock]; exact { })

/-! ### Read sub-steps (R246 to R252) -/

theorem acceptStep (h : s.TurnFrame n t) : s.TurnFrame n (acceptStep n t) := by
  unfold Machine.acceptStep
  split
  · exact ((h.asked _).closeFd _).setSock (by rw [closeFd_sock, closeFd_params]; exact .accepted _ _ _ _ _)
  · exact h.asked _

theorem eofStep (h : s.TurnFrame n t) : s.TurnFrame n (eofStep n t) := by
  unfold Machine.eofStep
  split
  · exact h.setSock { }
  · exact h.disconnect

theorem tcpRecvStep (h : s.TurnFrame n t) : s.TurnFrame n (tcpRecvStep n t) := by
  unfold Machine.tcpRecvStep
  split
  · exact ((h.asked _).rxAppend _).raiseIr _
  · exact (h.asked _).eofStep
  · exact h.asked _

theorem udpRecvStep (h : s.TurnFrame n t) : s.TurnFrame n (udpRecvStep n t) := by
  unfold Machine.udpRecvStep
  split
  · exact ((h.asked _).rxAppend _).raiseIr _
  · exact h.asked _

theorem readStep (h : s.TurnFrame n t) : s.TurnFrame n (readStep n t) := by
  unfold Machine.readStep
  split
  · exact h.acceptStep
  · exact h.tcpRecvStep
  · exact h.tcpRecvStep
  · exact h.udpRecvStep
  all_goals exact h

theorem readPart (h : s.TurnFrame n t) (r : Bool) : s.TurnFrame n (readPart n r t) := by
  cases r with
  | true => exact h.readStep
  | false => exact h

/-! ### Write sub-steps (R246, R253 to R259) -/

theorem tcpSend (h : s.TurnFrame n t) : s.TurnFrame n (tcpSend n t) := by
  unfold Machine.tcpSend
  split
  · exact h
  · split
    · exact (h.asked _).setSock { }
    · exact h.asked _

theorem tcpFlush (h : s.TurnFrame n t) : s.TurnFrame n (tcpFlush n t) := h.tcpSend.setSock (.flushDone _ _)

theorem connectDone (h : s.TurnFrame n t) : s.TurnFrame n (connectDone n t) := by
  unfold Machine.connectDone
  split
  · exact (h.asked _).setSock { }
  · exact ((h.asked _).raiseIr _).release

end State.TurnFrame

/-- Within the frame of a turn of socket `n`, or ended by DGRAM_TOO_LONG raised within it (R253, R286). -/
def TurnEnds (n : SockId) (s : State) (r : Except State State) : Prop :=
  (∃ t, r = .ok t ∧ s.TurnFrame n t) ∨ ∃ t, r = .error (raiseFault .dgramTooLong t) ∧ s.TurnFrame n t

namespace State.TurnFrame

variable {n : SockId} {s t u : State}

theorem ends (h : s.TurnFrame n t) : TurnEnds n s (.ok t) := .inl ⟨t, rfl, h⟩

theorem ends_udpFlush (h : s.TurnFrame n t) : TurnEnds n s (udpFlush n t) := by
  unfold udpFlush
  split
  · exact (h.setSock { }).ends
  · split_ifs
    · exact .inr ⟨t, rfl, h⟩
    · exact ((h.asked _).setSock { }).ends
    · exact ((h.asked _).setSock (.shortSend _ _ _)).ends

theorem ends_writeStep (h : s.TurnFrame n t) : TurnEnds n s (writeStep n t) := by
  unfold writeStep
  split
  · exact h.connectDone.ends
  · split
    · exact h.ends_udpFlush
    · exact h.ends
  · split
    · exact h.tcpFlush.ends
    · exact h.ends
  all_goals exact h.ends

theorem ends_serveSocket (h : s.TurnFrame n t) : TurnEnds n s (serveSocket n t) := by
  unfold serveSocket writePart
  split_ifs
  · exact ((h.asked _).readPart _).ends_writeStep
  · exact ((h.asked _).readPart _).ends
  · exact h.ends

end State.TurnFrame

/-- R241: a live socket is served, and its processing is over. -/
theorem tickSocket_live {n : SockId} {s : State} (h : (s.sock n).tickLive = true) :
    tickSocket n s = (serveSocket n s).map (endSocket n) := by
  rw [tickSocket, if_pos h]
  cases serveSocket n s <;> rfl

/-- What a turn of the tick can do. -/
theorem tickSocket_ends (n : SockId) (s : State) : TurnEnds n s (tickSocket n s) := by
  cases hlive : (s.sock n).tickLive with
  | false =>
    rw [tickSocket_dead n s hlive]
    exact (State.TurnFrame.refl n s).ends
  | true =>
    rw [tickSocket_live hlive]
    obtain ⟨t, ht, h⟩ | ⟨t, ht, h⟩ := (State.TurnFrame.refl n s).ends_serveSocket <;> rw [ht]
    · exact (h.setSock { }).ends
    · exact .inr ⟨t, rfl, h⟩

/-- The buffers of another socket are no RX bytes of this one. -/
theorem cells_ne_rxCell {n m : SockId} (hm : m ≠ n) (o : BitVec 11) :
    (∀ p, p < bufSize → txCell m o.toNat ≠ rxCell n p) ∧ (∀ p, p < bufSize → rxCell m o.toNat ≠ rxCell n p) :=
  ⟨fun p _ => txCell_ne_rxCell m n _ p o.isLt, fun p hp heq => hm (rxCell_inj m n _ p o.isLt hp heq).1⟩

/-- Settles O46: a turn is within its frame, and the model fault raised in it changes the flag alone. -/
theorem socketSubStepsLeaveOtherSockets : Obligations.SocketSubStepsLeaveOtherSockets := by
  intro s t n m hm hturn
  have hframe : ∀ u : State, s.TurnFrame n u → u.sock m = s.sock m ∧ ∀ o : BitVec 11,
      u.bufByte (txCell m o.toNat) = s.bufByte (txCell m o.toNat) ∧
      u.bufByte (rxCell m o.toNat) = s.bufByte (rxCell m o.toNat) := fun u hu =>
    ⟨hu.sock_other hm, fun o => ⟨hu.bytes _ (cells_ne_rxCell hm o).1, hu.bytes _ (cells_ne_rxCell hm o).2⟩⟩
  obtain ⟨u, hok, hu⟩ | ⟨u, herr, hu⟩ := tickSocket_ends n s
  · rw [hok] at hturn
    obtain rfl : u = t := by simpa using hturn
    exact hframe u hu
  · rw [herr] at hturn
    obtain rfl : raiseFault .dgramTooLong u = t := by simpa using hturn
    rw [raiseFault_eq]
    exact hframe u hu

/-! ### The whole tick (R241, R260) -/

/-- What the turns of a tick leave: all but the sockets, the RX bytes, the requests and the answers. -/
structure State.TickFrame (s t : State) : Prop where
  rest : ∃ socks mem netIn netOut, t = { s with socks := socks, mem := mem, netIn := netIn, netOut := netOut }
  sock : ∀ n, (s.sock n).TickFrame s.params (t.sock n)
  txBytes : ∀ n o, o < bufSize → t.bufByte (txCell n o) = s.bufByte (txCell n o)

namespace State.TickFrame

variable {s t u : State}

theorem refl (s : State) : s.TickFrame s where
  rest := ⟨s.socks, s.mem, s.netIn, s.netOut, rfl⟩
  sock := fun _ => .refl _ _
  txBytes := fun _ _ _ => rfl

theorem params (h : s.TickFrame t) : t.params = s.params := by
  obtain ⟨socks, mem, netIn, netOut, rfl⟩ := h.rest
  rfl

theorem fault (h : s.TickFrame t) : t.fault = s.fault := by
  obtain ⟨socks, mem, netIn, netOut, rfl⟩ := h.rest
  rfl

theorem trans (h : s.TickFrame t) (g : t.TickFrame u) : s.TickFrame u where
  rest := by
    obtain ⟨socks, mem, netIn, netOut, rfl⟩ := h.rest
    obtain ⟨socks', mem', netIn', netOut', rfl⟩ := g.rest
    exact ⟨socks', mem', netIn', netOut', rfl⟩
  sock := fun n => (h.sock n).trans (h.params ▸ g.sock n)
  txBytes := fun n o ho => (g.txBytes n o ho).trans (h.txBytes n o ho)

theorem markLive (s : State) : s.TickFrame (markLive s) where
  rest := ⟨(Machine.markLive s).socks, s.mem, s.netIn, s.netOut, rfl⟩
  sock := fun n => by rw [markLive_sock]; exact { }
  txBytes := fun _ _ _ => rfl

end State.TickFrame

theorem State.TurnFrame.tickFrame {n : SockId} {s t : State} (h : s.TurnFrame n t) : s.TickFrame t where
  rest := by
    obtain ⟨k, mem, netIn, netOut, rfl⟩ := h.rest
    exact ⟨_, mem, netIn, netOut, rfl⟩
  sock := fun m => by
    obtain rfl | hm := eq_or_ne m n
    · exact h.sock
    · rw [h.sock_other hm]
      exact .refl _ _
  txBytes := fun m o ho => h.bytes _ fun p _ => txCell_ne_rxCell m n o p ho

/-- What a list of turns can do. -/
theorem turns_ends (l : List SockId) (s : State) :
    (∃ t, turns l s = .ok t ∧ s.TickFrame t) ∨
    ∃ t, turns l s = .error (raiseFault .dgramTooLong t) ∧ s.TickFrame t := by
  induction l generalizing s with
  | nil => exact .inl ⟨s, rfl, .refl s⟩
  | cons n rest ih =>
    obtain ⟨t, hok, ht⟩ | ⟨t, herr, ht⟩ := tickSocket_ends n s
    · simp only [turns, hok]
      obtain ⟨u, hu, hf⟩ | ⟨u, hu, hf⟩ := ih t
      · exact .inl ⟨u, hu, ht.tickFrame.trans hf⟩
      · exact .inr ⟨u, hu, ht.tickFrame.trans hf⟩
    · simp only [turns, herr]
      exact .inr ⟨t, rfl, ht.tickFrame⟩

theorem exec_tick_ok {s t : State} (h : turns [0, 1, 2, 3] (markLive s) = .ok t) :
    exec .tick s = .next (answerNone t) := by
  change execTick s = _
  rw [execTick, tickAll, tickSockets_turns, h]

theorem exec_tick_error {s e : State} (h : turns [0, 1, 2, 3] (markLive s) = .error e) :
    exec .tick s = .next (answerNone (s.endedByFault e)) := by
  change execTick s = _
  rw [execTick, tickAll, tickSockets_turns, h]

/-- What a tick can do: its turns stay within their frame, or DGRAM_TOO_LONG ends it. -/
theorem exec_tick_cases (s : State) :
    (∃ t, exec .tick s = .next (answerNone t) ∧ s.TickFrame t) ∨
    ∃ t, exec .tick s = .next (answerNone (s.endedByFault (raiseFault .dgramTooLong t))) ∧ s.TickFrame t := by
  obtain ⟨t, ht, hf⟩ | ⟨t, ht, hf⟩ := turns_ends [0, 1, 2, 3] (markLive s)
  · exact .inl ⟨t, exec_tick_ok ht, (State.TickFrame.markLive s).trans hf⟩
  · exact .inr ⟨t, exec_tick_error ht, (State.TickFrame.markLive s).trans hf⟩

/-- The first loop is known by what it leaves of the sockets. -/
theorem eq_markLive {s m : State} (hrest : m = { s with socks := m.socks })
    (hsock : ∀ n, m.sock n = { (s.sock n) with tickLive := (s.sock n).fd.isSome }) : m = markLive s := by
  have hsocks : m.socks = (markLive s).socks :=
    Quad.ext_get _ _ fun n => (hsock n).trans (markLive_sock s n).symm
  rw [hrest, hsocks]
  rfl

/-- R260: the frame of TICK, however it ends. -/
theorem exec_tick_frame (s : State) :
    ∃ socks mem netIn netOut fault t, exec .tick s = .next t ∧ t = { s with
      socks := socks, mem := mem, netIn := netIn, netOut := netOut, fault := fault, busRdata := none } ∧
      (∀ n, (s.sock n).TickFrame s.params (t.sock n)) ∧
      ∀ n o, o < bufSize → t.bufByte (txCell n o) = s.bufByte (txCell n o) := by
  obtain ⟨t, ht, hf⟩ | ⟨t, ht, -⟩ := exec_tick_cases s
  · obtain ⟨socks, mem, netIn, netOut, rfl⟩ := hf.rest
    exact ⟨_, _, _, _, _, _, ht, rfl, hf.sock, hf.txBytes⟩
  · exact ⟨_, _, _, _, _, _, ht, rfl, fun n => .refl _ _, fun _ _ _ => rfl⟩

/-- Settles O45: the tick is its turns by `tickSockets_turns`, and each of its two endings is within the frame. -/
theorem tickIsFourTurnsOnTheNetworkSide : Obligations.TickIsFourTurnsOnTheNetworkSide := by
  refine ⟨fun s m hrest hsock => ?turns, fun s n hdead => tickSocket_dead n s hdead, fun s => ?frame⟩
  case turns =>
    rw [eq_markLive hrest hsock]
    exact ⟨fun t ht => exec_tick_ok ht, fun e he => exec_tick_error he⟩
  case frame =>
    obtain ⟨socks, mem, netIn, netOut, fault, t, ht, rfl, hsock, htx⟩ := exec_tick_frame s
    refine ⟨_, ht, rfl, rfl, rfl, rfl, rfl, rfl, rfl, rfl, rfl, rfl, rfl, fun n => ?_, fun n o => htx n _ o.isLt⟩
    have h := hsock n
    exact ⟨h.mr, h.port, h.txWR, h.rxRD, h.oldRxRD, h.lastSendMark, h.dest, h.bound, h.bwc⟩

end Sys2Proof.Machine
end

section
/-! SUPPORT. A tick with nothing ready (spec/44_multiplexer.md R241 to R243): each turn asks, and clears its mark. -/

namespace Sys2Proof.Machine

theorem wantRead_eq (k : Socket) : wantRead k = decide ((k.state = .udp ∧ k.rxAvail + 9 ≤ 2048) ∨
    ((k.state = .established ∨ k.state = .closeWait) ∧ k.rxAvail < 2048) ∨ k.state = .listen) := by
  have hudp : 9 ≤ rxFree k ↔ k.rxAvail + 9 ≤ 2048 := by simp only [rxFree, bufSize]; omega
  have htcp : 1 ≤ rxFree k ↔ k.rxAvail < 2048 := by simp only [rxFree, bufSize]; omega
  cases hs : k.state <;> simp [wantRead, hs, hudp, htcp]

/-- R242, R243: what a tick asks of a socket. -/
theorem readyAsk_eq (s : State) (n : SockId) :
    s.readyAsk n =
      if (s.sock n).fd.isSome && (wantRead (s.sock n) || wantWrite (s.sock n)) then [readyRequest n s] else [] := by
  simp only [State.readyAsk, readyRequest, wantRead_eq, wantWrite, beq_eq_decide]

/-- R242: a socket with no flush pending is no candidate in Init, nor where it has no room to receive. -/
theorem noCandidate_of_full {k : Socket} (hpending : k.writePending = false)
    (hstate : k.state = .init ∨ (k.state = .udp ∧ 2048 < k.rxAvail + 9) ∨
      ((k.state = .established ∨ k.state = .closeWait) ∧ 2048 ≤ k.rxAvail)) :
    wantRead k = false ∧ wantWrite k = false := by
  rw [wantRead_eq, decide_eq_false_iff_not, wantWrite, hpending]
  obtain h | ⟨h, hfull⟩ | ⟨h | h, hfull⟩ := hstate <;> simp [h] <;> omega

/-- Socket `n` has asked in its turn, the answers `net` are left, and its mark is gone. -/
def State.passed (s : State) (n : SockId) (net : List NetAnswer) : State :=
  { s.setSock n { (s.sock n) with tickLive := false } with netOut := s.readyAsk n ++ s.netOut, netIn := net }

theorem passed_sock (s : State) (n m : SockId) (net : List NetAnswer) :
    (s.passed n net).sock m = if m = n then { (s.sock n) with tickLive := false } else s.sock m :=
  sock_setSock s n m _

/-- What a socket asks does not depend on its mark. -/
theorem passed_readyAsk (s : State) (n m : SockId) (net : List NetAnswer) :
    (s.passed n net).readyAsk m = s.readyAsk m := by
  simp only [State.readyAsk, passed_sock]
  split
  · next h => rw [h]
  · rfl

/-- The turn of a socket that is not ready asks, if the socket is a candidate, and clears the mark. -/
theorem tickSocket_notReady {n : SockId} {s : State} {net : List NetAnswer}
    (hmark : (s.sock n).tickLive = (s.sock n).fd.isSome)
    (hnet : s.netIn = List.replicate (s.readyAsk n).length (.ready false false) ++ net) :
    tickSocket n s = .ok (s.passed n net) := by
  rw [State.passed, readyAsk_eq] at *
  cases hfd : (s.sock n).fd.isSome with
  | false =>
    have hdead : (s.sock n).tickLive = false := hmark.trans hfd
    have hsame : { (s.sock n) with tickLive := false } = s.sock n := by rw [← hdead]
    have hnet' : s.netIn = net := by simpa [hfd] using hnet
    rw [tickSocket_dead n s hdead, hsame, setSock_sock, ← hnet']
    rfl
  | true =>
    rw [tickSocket_live (hmark.trans hfd), serveSocket]
    cases hcand : wantRead (s.sock n) || wantWrite (s.sock n) with
    | false =>
      have hnet' : s.netIn = net := by simpa [hfd, hcand] using hnet
      rw [← hnet']
      rfl
    | true =>
      have hnet' : s.netIn = .ready false false :: net := by simpa [hfd, hcand] using hnet
      have hquiet : readiness n s = (false, false) := by
        simp [readiness, rawAnswer_cons s _ _ _ hnet', answerReady]
      have hasked : s.asked (readyRequest n s) = { s with netOut := readyRequest n s :: s.netOut, netIn := net } := by
        simp [State.asked, State.issue, hnet']
      rw [if_pos rfl, hquiet, hasked]
      rfl

/-- The turns of sockets that are not ready ask, in their order, and clear the marks. -/
theorem turns_notReady {l : List SockId} (hl : l.Nodup) {s : State} {net : List NetAnswer}
    (hmark : ∀ n ∈ l, (s.sock n).tickLive = (s.sock n).fd.isSome)
    (hnet : s.netIn = List.replicate (l.reverse.flatMap s.readyAsk).length (.ready false false) ++ net) :
    ∃ socks, turns l s =
        .ok { s with socks := socks, netOut := l.reverse.flatMap s.readyAsk ++ s.netOut, netIn := net } ∧
      ∀ n, socks.get n = if n ∈ l then { (s.sock n) with tickLive := false } else s.sock n := by
  induction l generalizing s with
  | nil =>
    have hrest : s.netIn = net := hnet
    exact ⟨s.socks, by rw [← hrest]; rfl, fun n => rfl⟩
  | cons n rest ih =>
    obtain ⟨hn, hrest⟩ := List.nodup_cons.mp hl
    have hask : (n :: rest).reverse.flatMap s.readyAsk = rest.reverse.flatMap s.readyAsk ++ s.readyAsk n := by simp
    rw [hask, List.length_append, Nat.add_comm, List.replicate_add, List.append_assoc] at hnet
    have hother : ∀ m ∈ rest, ∀ net, (s.passed n net).sock m = s.sock m := fun m hm net => by
      rw [passed_sock, if_neg (ne_of_mem_of_not_mem hm hn)]
    have hasks : ∀ net, rest.reverse.flatMap (s.passed n net).readyAsk = rest.reverse.flatMap s.readyAsk := fun net =>
      congrArg (List.flatMap · rest.reverse) (funext fun m => passed_readyAsk s n m net)
    obtain ⟨socks, hok, hsock⟩ := ih hrest (s := s.passed n _) (fun m hm => by
      rw [hother m hm]
      exact hmark m (List.mem_cons_of_mem n hm)) (by rw [hasks]; rfl)
    refine ⟨socks, ?_, fun m => ?_⟩
    · simp only [turns, tickSocket_notReady (hmark n List.mem_cons_self) hnet]
      rw [hok, hasks, hask, List.append_assoc]
      rfl
    · rw [hsock m, passed_sock]
      by_cases hm : m = n
      · rw [if_neg (hm ▸ hn), if_pos hm, if_pos (by simp [hm]), hm]
      · simp [hm]

/-- Settles O44: the turns of a tick with nothing ready ask in their order, and the marks are gone. -/
theorem tickWithNothingReadyOnlyAsks : Obligations.TickWithNothingReadyOnlyAsks := by
  intro s hidle
  have hmarked : ∀ n, (markLive s).sock n = { (s.sock n) with tickLive := (s.sock n).fd.isSome } := markLive_sock s
  have hasks : [0, 1, 2, 3].reverse.flatMap (markLive s).readyAsk = s.readyAsks := by
    have hask : ∀ n, (markLive s).readyAsk n = s.readyAsk n := fun n => by simp only [State.readyAsk, hmarked]
    simp [hask, State.readyAsks]
  have hquiet : ∀ net, s.netIn = List.replicate s.readyAsks.length (.ready false false) ++ net →
      exec .tick s = .next { s with netOut := s.readyAsks ++ s.netOut, netIn := net, busRdata := none } := by
    intro net hnet
    obtain ⟨socks, hok, hsock⟩ := turns_notReady (by decide) (s := markLive s) (fun n _ => by rw [hmarked])
      (hasks.symm ▸ hnet)
    have hsocks : socks = s.socks := Quad.ext_get _ _ fun n => by
      have hn : n ∈ [0, 1, 2, 3] := (by decide : ∀ m : SockId, m ∈ [0, 1, 2, 3]) n
      rw [hsock, if_pos hn, hmarked, ← hidle n]
      rfl
    rw [exec_tick_ok hok, hasks, hsocks]
    rfl
  refine ⟨hquiet, fun hnone => ?_⟩
  have hask : ∀ n, s.readyAsk n = [] := fun n => by
    obtain hfd | ⟨hpending, hstate⟩ := hnone n
    · simp [readyAsk_eq, hfd]
    · have hnocand := noCandidate_of_full hpending hstate
      simp [readyAsk_eq, hnocand]
  have hasks : s.readyAsks = [] := by simp [State.readyAsks, hask]
  simpa [hasks] using hquiet s.netIn (by simp [hasks])

end Sys2Proof.Machine
end

section
/-! SUPPORT. The turn of a ready socket (spec/44_multiplexer.md R244 to R259). It is told as `State.served`, from a
state that a receive may have filled; each sub-step has one rule per answer on that form, and a tick with one open
socket runs by chaining the rule of its read sub-step and that of its write sub-step. -/

namespace Sys2Proof.Machine

section

variable (s : State) (n : SockId) (k : Socket) (reqs : List NetRequest) (net : List NetAnswer)

theorem served_sock_eq (m : SockId) : (s.served n k reqs net).sock m = if m = n then k else s.sock m :=
  Quad.get_set _ _ _ _

/-! ### Received bytes (R219, R220) -/

/-- The state with the bytes `b` stored in the RX ring of socket `n`, behind the data that `k` holds. -/
def State.filled (b : List Byte) : State := { s with mem := (rxWrite n (rxPos k) b s).mem }

theorem filled_eq (b : List Byte) : s.filled n k b = rxWrite n (rxPos k) b s := by
  obtain ⟨m, hm⟩ := rxWrite_eq n (rxPos k) b s
  rw [State.filled, hm]

theorem rxWrite_served (o : Nat) (b : List Byte) :
    rxWrite n o b (s.served n k reqs net) =
      ({ s with mem := (rxWrite n o b s).mem } : State).served n k reqs net := by
  induction b generalizing o s with
  | nil => rfl
  | cons v rest ih => exact ih (s.setBuf (rxCell n (o % bufSize)) v) (o + 1)

/-- R251: the bytes are appended and RECV is set. -/
theorem rxAppend_served (b : List Byte) :
    (rxAppend n b (s.served n k reqs net)).raiseIr n .recv =
      (s.filled n k b).served n { k with rxAvail := k.rxAvail + b.length, ir := k.ir ||| 0b00100#5 } reqs net := by
  rw [rxAppend, served_sock, rxWrite_served, served_setSock, State.raiseIr, served_sock, served_setSock]
  rfl

/-- A receive leaves what a flush sends. -/
theorem txBytes_filled (b : List Byte) (o len : Nat) : txBytes (s.filled n k b) n o len = txBytes s n o len := by
  have hkeep := ((State.TurnFrame.refl n s).rxWrite (rxPos k) b).tickFrame.txBytes n
  induction len generalizing o with
  | zero => rfl
  | succ len ih => rw [txBytes, txBytes, ih, filled_eq, hkeep _ (Nat.mod_lt _ (by decide))]

theorem txBytes_served (o len : Nat) : txBytes (s.served n k reqs net) n o len = txBytes s n o len := by
  induction len generalizing o with
  | zero => rfl
  | succ len ih => exact congrArg _ (ih (o + 1))

end

/-! ### Read sub-steps (R246 to R252) -/

section

variable (s : State) (n : SockId) {k : Socket} (reqs : List NetRequest) (net : List NetAnswer)

theorem readPart_none (t : State) : readPart n false t = t := rfl

theorem readPart_listen (hs : k.state = .listen) :
    readPart n true (s.served n k reqs net) = acceptStep n (s.served n k reqs net) := by
  simp [readPart, readStep, hs]

theorem readPart_tcp (hs : k.state = .established ∨ k.state = .closeWait) :
    readPart n true (s.served n k reqs net) = tcpRecvStep n (s.served n k reqs net) := by
  obtain hs | hs := hs <;> simp [readPart, readStep, hs]

theorem readPart_udp (hs : k.state = .udp) :
    readPart n true (s.served n k reqs net) = udpRecvStep n (s.served n k reqs net) := by
  simp [readPart, readStep, hs]

/-- R247: a token that no socket holds replaces the listening one. -/
theorem acceptStep_accepted {g : Fd} (ip : Ip4) (port : Word)
    (hfresh : ∀ m, ((s.served n k reqs (.accepted g ip port :: net)).sock m).fd ≠ some g) :
    acceptStep n (s.served n k reqs (.accepted g ip port :: net)) =
      s.served n (k.accepted s.params g ip port) (closing k.fd ++ .accept k.fd :: reqs) net := by
  have hfd := (answerAccept_some (s.served n k reqs (.accepted g ip port :: net)) _ g ip port).mpr ⟨rfl, hfresh⟩
  simp only [acceptStep, served_sock, served_rawAnswer, hfd, served_asked, served_closeFd, served_setSock]
  rfl

/-- R248: a failed accept leaves the socket listening. -/
theorem acceptStep_fail :
    acceptStep n (s.served n k reqs (.fail :: net)) = s.served n k (.accept k.fd :: reqs) net := by
  simp [acceptStep, answerAccept]

theorem tcpRecvRequest_served : tcpRecvRequest n (s.served n k reqs net) = .recv k.fd (2048 - k.rxAvail) := by
  rw [tcpRecvRequest, served_sock]
  rfl

/-- R249, R251: stream data within the free space are stored. -/
theorem tcpRecvStep_data {b : List Byte} (hpos : 1 ≤ b.length) (hfit : b.length + k.rxAvail ≤ 2048) :
    tcpRecvStep n (s.served n k reqs (.data b :: net)) =
      (s.filled n k b).served n { k with rxAvail := k.rxAvail + b.length, ir := k.ir ||| 0b00100#5 }
        (.recv k.fd (2048 - k.rxAvail) :: reqs) net := by
  have htake : b.take (rxFree k) = b := List.take_of_length_le (Nat.le_sub_of_add_le hfit)
  have hne : b.isEmpty = false := by cases b with
    | nil => cases hpos
    | cons v rest => rfl
  have hdata : answerRecv (rxFree k) (.data b) = .data b := by rw [answerRecv, htake, hne]; rfl
  simp only [tcpRecvStep, served_sock, tcpRecvRequest_served, served_rawAnswer, hdata, served_asked, rxAppend_served]

theorem tcpRecvStep_err :
    tcpRecvStep n (s.served n k reqs (.err :: net)) = s.served n k (.recv k.fd (2048 - k.rxAvail) :: reqs) net := by
  simp [tcpRecvStep, tcpRecvRequest_served, answerRecv]

/-- R250: the peer has closed its side; the first end of stream half-closes. -/
theorem tcpRecvStep_eof_established (hs : k.state = .established) :
    tcpRecvStep n (s.served n k reqs (.eof :: net)) =
      s.served n { k with state := .closeWait } (.recv k.fd (2048 - k.rxAvail) :: reqs) net := by
  simp [tcpRecvStep, tcpRecvRequest_served, answerRecv, eofStep, hs]

/-- R250: an end of stream in CloseWait disconnects. -/
theorem tcpRecvStep_eof_closeWait (hs : k.state = .closeWait) :
    tcpRecvStep n (s.served n k reqs (.eof :: net)) =
      s.served n (k.raise .discon).released (closing k.fd ++ .recv k.fd (2048 - k.rxAvail) :: reqs) net := by
  simp [tcpRecvStep, tcpRecvRequest_served, answerRecv, eofStep, hs, disconnect_served]

theorem udpRecvMax_eq (k : Socket) : udpRecvMax k = 2040 - k.rxAvail := by
  simp only [udpRecvMax, rxFree, bufSize]
  omega

theorem udpRecvRequest_served :
    udpRecvRequest n (s.served n k reqs net) = .recvFrom k.fd (2040 - k.rxAvail) := by
  rw [udpRecvRequest, served_sock, udpRecvMax_eq]

/-- R251, R252: a datagram is stored behind its pseudo-header, cut to the room left. -/
theorem udpRecvStep_dgram (p : List Byte) (ip : Ip4) (port : Word) :
    udpRecvStep n (s.served n k reqs (.dgram p ip port :: net)) =
      (s.filled n k (dgramImage (p.take (2040 - k.rxAvail)) ip port)).served n
        { k with
          rxAvail := k.rxAvail + (8 + (p.take (2040 - k.rxAvail)).length), ir := k.ir ||| 0b00100#5 }
        (.recvFrom k.fd (2040 - k.rxAvail) :: reqs) net := by
  have hlen : (dgramImage (p.take (2040 - k.rxAvail)) ip port).length = 8 + (p.take (2040 - k.rxAvail)).length := by
    rw [dgramImage, List.length_append]
    rfl
  simp only [udpRecvStep, served_sock, udpRecvRequest_served, served_rawAnswer, answerRecvFrom, served_asked,
    rxAppend_served, udpRecvMax_eq, dgramBytes_eq, hlen]

theorem udpRecvStep_err :
    udpRecvStep n (s.served n k reqs (.err :: net)) = s.served n k (.recvFrom k.fd (2040 - k.rxAvail) :: reqs) net := by
  simp [udpRecvStep, udpRecvRequest_served, answerRecvFrom]

/-- Whatever the answer, a receive issues its request and changes no more than memory, `rxAvail` and the bits. -/
theorem udpRecvStep_any (a : NetAnswer) : ∃ m avail ir,
    udpRecvStep n (s.served n k reqs (a :: net)) =
      ({ s with mem := m } : State).served n { k with rxAvail := avail, ir := ir }
        (.recvFrom k.fd (2040 - k.rxAvail) :: reqs) net := by
  cases hd : answerRecvFrom (udpRecvMax k) a with
  | none => exact ⟨s.mem, k.rxAvail, k.ir, by simp [udpRecvStep, udpRecvRequest_served, hd]⟩
  | some d =>
    refine ⟨(s.filled n k (dgramBytes d)).mem, k.rxAvail + (dgramBytes d).length, k.ir ||| 0b00100#5, ?_⟩
    simp only [udpRecvStep, served_sock, udpRecvRequest_served, served_rawAnswer, hd, served_asked, rxAppend_served]
    rfl

end

/-! ### Write sub-steps (R246, R253 to R259) -/

section

variable (s : State) (n : SockId) {k : Socket} (reqs : List NetRequest) (net : List NetAnswer)

theorem writePart_none (t : State) : writePart n false t = .ok t := rfl

/-- R245: once the descriptor is gone the write sub-step is skipped. -/
theorem writePart_dead (w : Bool) (h : k.tickLive = false) :
    writePart n w (s.served n k reqs net) = .ok (s.served n k reqs net) := by
  simp [writePart, h]

/-- R258: in CloseWait nothing is sent. -/
theorem writePart_closeWait (w : Bool) (hs : k.state = .closeWait) :
    writePart n w (s.served n k reqs net) = .ok (s.served n k reqs net) := by
  simp [writePart, writeStep, hs]

/-- R244, R258: no flush follows where none is pending, the socket is not writable, or it is in CloseWait. -/
theorem writePart_quiet {pending w : Bool} (h : pending = false ∨ w = false ∨ k.state = .closeWait) :
    writePart n (w && pending) (s.served n k reqs net) = .ok (s.served n k reqs net) := by
  obtain rfl | rfl | hs := h
  · rw [Bool.and_false, writePart_none]
  · rw [Bool.false_and, writePart_none]
  · exact writePart_closeWait s n reqs net _ hs

theorem writePart_connecting (hlive : k.tickLive = true) (hs : k.state = .connecting) :
    writePart n true (s.served n k reqs net) = .ok (connectDone n (s.served n k reqs net)) := by
  simp [writePart, writeStep, hlive, hs]

theorem writePart_udp (hlive : k.tickLive = true) (hs : k.state = .udp) (hp : k.writePending = true) :
    writePart n true (s.served n k reqs net) = udpFlush n (s.served n k reqs net) := by
  simp [writePart, writeStep, hlive, hs, hp]

theorem writePart_established (hlive : k.tickLive = true) (hs : k.state = .established)
    (hp : k.writePending = true) :
    writePart n true (s.served n k reqs net) = .ok (tcpFlush n (s.served n k reqs net)) := by
  simp [writePart, writeStep, hlive, hs, hp]

/-! The datagram flush (R253, R254). -/

/-- The request that sends the oldest queued datagram. -/
def sendToOf (s : State) (n : SockId) (k : Socket) (len : Word) : NetRequest :=
  .sendTo k.fd (txBytes s n (ringOff k.txRR) len.toNat) k.dip k.dport

theorem sendToOf_filled (l : Socket) (b : List Byte) (len : Word) :
    sendToOf (s.filled n l b) n k len = sendToOf s n k len := by
  rw [sendToOf, txBytes_filled]
  rfl

theorem sendToRequest_served (len : Word) :
    sendToRequest n (s.served n k reqs net) len.toNat = sendToOf s n k len := by
  rw [sendToRequest, dgramOut, served_sock, txBytes_served]
  rfl

theorem udpFlush_empty (hq : k.dgq = []) :
    udpFlush n (s.served n k reqs net) = .ok (s.served n { k with writePending := false } reqs net) := by
  simp [udpFlush, hq]

theorem udpFlush_overlong {len : Word} {rest : List Word} (hq : k.dgq = len :: rest) (hlen : 2048 < len.toNat) :
    udpFlush n (s.served n k reqs net) = .error (raiseFault .dgramTooLong (s.served n k reqs net)) := by
  simp [udpFlush, hq, bufSize, hlen]

/-- The whole datagram is sent. -/
theorem udpFlush_sent {len : Word} {rest : List Word} (hp : k.writePending = true) (hq : k.dgq = len :: rest)
    (hlen : len.toNat ≤ 2048) {j : Nat} (hj : len.toNat ≤ j) :
    udpFlush n (s.served n k reqs (.sent j :: net)) = .ok (s.served n
      { k with
        ir := k.ir ||| 0b10000#5, txRR := k.txRR + len, dgq := rest, writePending := !rest.isEmpty }
      (sendToOf s n k len :: reqs) net) := by
  have hsent : k.datagramSent len rest = { k with
      ir := k.ir ||| 0b10000#5, txRR := k.txRR + len, dgq := rest, writePending := !rest.isEmpty } := by
    cases rest <;> simp [Socket.datagramSent, Socket.raise, irMask, hp]
  have hfit : ¬ bufSize < len.toNat := Nat.not_lt.mpr hlen
  simp only [udpFlush, served_sock, hq, if_neg hfit, sendToRequest_served, served_rawAnswer, answerSent,
    Nat.min_eq_right hj, if_true, served_asked, served_setSock, hsent]

/-- A short or failed send keeps the datagram queued. -/
theorem udpFlush_short {len : Word} {rest : List Word} (hq : k.dgq = len :: rest) (hlen : len.toNat ≤ 2048)
    {a : NetAnswer} (ha : answerSent len.toNat a ≠ some len.toNat) :
    udpFlush n (s.served n k reqs (a :: net)) =
      .ok (s.served n (k.shortSend s.params) (sendToOf s n k len :: reqs) net) := by
  have hfit : ¬ bufSize < len.toNat := Nat.not_lt.mpr hlen
  simp only [udpFlush, served_sock, hq, if_neg hfit, sendToRequest_served, served_rawAnswer, if_neg ha,
    served_asked, served_setSock]
  rfl

/-- UDP_SHORT_SEND decides whether the flush stays pending. -/
theorem shortSend_eq (p : Params) (hp : k.writePending = true) :
    k.shortSend p = { k with writePending := p.udpShortSend == .retain } := by
  cases hr : p.udpShortSend with
  | dropPending => simp [Socket.shortSend, hr]
  | retain =>
    rw [show (UdpShortSend.retain == .retain) = k.writePending from hp.symm]
    simp [Socket.shortSend, hr]

/-! The stream flush (R255 to R257). -/

theorem flushDone_incomplete (h : k.txRR ≠ k.txWR) : k.flushDone = k := if_neg h

theorem flushDone_complete (h : k.txRR = k.txWR) :
    k.flushDone = { k with writePending := false, ir := k.ir ||| 0b10000#5 } := if_pos h

/-- R256: once `txRR` is at `t` the flush is complete exactly when that is the end of the promised bytes. -/
theorem flushDone_advanced (t : Word) :
    ({ k with txRR := t } : Socket).flushDone =
      if t = k.txWR then { k with txRR := k.txWR, writePending := false, ir := k.ir ||| 0b10000#5 }
      else { k with txRR := t } := by
  split
  · next h => rw [h]; exact flushDone_complete rfl
  · next h => exact flushDone_incomplete h

/-- Something is promised where a chunk is offered. -/
theorem txRR_ne_txWR_of_chunk (h : 0 < tcpChunk k) : k.txRR ≠ k.txWR := fun heq => by
  simp [tcpChunk, txUsed, heq] at h

/-- The request that sends the next chunk. -/
def sendOf (s : State) (n : SockId) (k : Socket) : NetRequest :=
  .send k.fd (txBytes s n (ringOff k.txRR) (tcpChunk k))

theorem sendOf_filled (l : Socket) (b : List Byte) : sendOf (s.filled n l b) n k = sendOf s n k := by
  rw [sendOf, txBytes_filled]
  rfl

theorem sendRequest_served : sendRequest n (s.served n k reqs net) = sendOf s n k := by
  rw [sendRequest, served_sock, txBytes_served]
  rfl

/-- With nothing promised no request is issued and the flush is complete. -/
theorem tcpFlush_empty (h : k.txRR = k.txWR) :
    tcpFlush n (s.served n k reqs net) =
      s.served n { k with writePending := false, ir := k.ir ||| 0b10000#5 } reqs net := by
  have hchunk : tcpChunk k = 0 := by simp [tcpChunk, txUsed, h]
  simp [tcpFlush, tcpSend, hchunk, flushDone_complete h]

theorem tcpFlush_sent {j : Nat} (hc : 0 < tcpChunk k) (hj : j ≤ tcpChunk k) :
    tcpFlush n (s.served n k reqs (.sent j :: net)) =
      s.served n ({ k with txRR := k.txRR + BitVec.ofNat 16 j } : Socket).flushDone (sendOf s n k :: reqs) net := by
  simp only [tcpFlush, tcpSend, served_sock, if_neg hc.ne', sendRequest_served, served_rawAnswer, answerSent,
    Nat.min_eq_left hj, served_asked, served_setSock]

theorem tcpFlush_err (hc : 0 < tcpChunk k) :
    tcpFlush n (s.served n k reqs (.err :: net)) = s.served n k (sendOf s n k :: reqs) net := by
  simp [tcpFlush, tcpSend, hc.ne', sendRequest_served, answerSent, flushDone_incomplete (txRR_ne_txWR_of_chunk hc)]

/-! The connect completion (R259). -/

theorem connectAgainRequest_served :
    connectAgainRequest n (s.served n k reqs net) = .connectAgain k.fd k.dip k.dport := by
  simp [connectAgainRequest]

theorem connectDone_ok :
    connectDone n (s.served n k reqs (.ok :: net)) =
      s.served n { k with state := .established, ir := k.ir ||| 0b00001#5 }
        (.connectAgain k.fd k.dip k.dport :: reqs) net := by
  simp [connectDone, connectAgainRequest_served, answerOk, Socket.raise, irMask]

theorem connectDone_fail :
    connectDone n (s.served n k reqs (.fail :: net)) =
      s.served n ({ k with ir := k.ir ||| 0b00001#5 } : Socket).released
        (closing k.fd ++ .connectAgain k.fd k.dip k.dport :: reqs) net := by
  simp [connectDone, connectAgainRequest_served, answerOk, Socket.raise, irMask, State.raiseIr, release_served]

end

end Sys2Proof.Machine
end

section
/-! SUPPORT. Ticks with one or two sockets open (spec/44_multiplexer.md R241 to R259): only sockets with a descriptor
have a turn, so such a tick is the sub-steps of its ready sockets, and each statement chains their rules. -/

namespace Sys2Proof.Machine

/-! ### The turns that are had (R241, R262) -/

/-- The turns of sockets that are not live change nothing, and no turn revives a socket. -/
theorem turns_filter {l : List SockId} (hl : l.Nodup) (s : State) :
    turns l s = turns (l.filter fun i => (s.sock i).tickLive) s := by
  induction l generalizing s with
  | nil => rfl
  | cons n rest ih =>
    obtain ⟨hn, hrest⟩ := List.nodup_cons.mp hl
    cases hlive : (s.sock n).tickLive with
    | false =>
      rw [List.filter_cons_of_neg (by simp [hlive]), turns, tickSocket_dead n s hlive]
      exact ih hrest s
    | true =>
      rw [List.filter_cons_of_pos (by simpa using hlive), turns, turns]
      obtain ⟨t, ht, hf⟩ | ⟨t, ht, -⟩ := tickSocket_ends n s
      · have hsame : rest.filter (fun i => (t.sock i).tickLive) = rest.filter fun i => (s.sock i).tickLive :=
          List.filter_congr fun i hi => by rw [hf.sock_other (ne_of_mem_of_not_mem hi hn)]
        rw [ht, ← hsame]
        exact ih hrest t
      · rw [ht]

/-- The turns of a tick are those of the sockets that have a descriptor. -/
theorem turns_markLive (s : State) :
    turns [0, 1, 2, 3] (markLive s) =
      turns ([0, 1, 2, 3].filter fun i => (s.sock i).fd.isSome) (markLive s) := by
  rw [turns_filter (by decide)]
  simp only [markLive_sock, Socket.marked]

/-- The answer of a tick that began in `s` and whose turns come out as `r`. -/
def tickResult (s : State) (r : Except State State) : Result :=
  match r with
  | .ok t => .next (answerNone t)
  | .error e => .next (answerNone (s.endedByFault e))

theorem exec_tick_turns (s : State) : exec .tick s = tickResult s (turns [0, 1, 2, 3] (markLive s)) := by
  cases h : turns [0, 1, 2, 3] (markLive s) with
  | ok t => exact exec_tick_ok h
  | error e => exact exec_tick_error h

theorem turns_singleton (n : SockId) (s : State) : turns [n] s = tickSocket n s := by
  simp only [turns]
  cases tickSocket n s <;> rfl

section

variable {s : State} {n : SockId} {k : Socket} {r w : Bool} {net : List NetAnswer}

/-- R241, R243, R244: the turn of a live candidate, which is answered `ready`. -/
theorem tickSocket_ready (reqs : List NetRequest) (hlive : k.tickLive = true)
    (hcand : (wantRead k || wantWrite k) = true) :
    tickSocket n (s.served n k reqs (.ready r w :: net)) =
      (writePart n (w && wantWrite k) (readPart n (r && wantRead k)
        (s.served n k (.ready k.fd (wantRead k) (wantWrite k) :: reqs) net))).map (endSocket n) := by
  have hreq : readyRequest n (s.served n k reqs (.ready r w :: net)) = .ready k.fd (wantRead k) (wantWrite k) := by
    simp [readyRequest]
  rw [tickSocket_live (by rw [served_sock]; exact hlive), serveSocket, served_sock, if_pos hcand, readiness, hreq,
    served_sock, served_rawAnswer, served_asked]
  rfl

/-- R241: the turn is over; the mark is as it was before the tick. -/
theorem endSocket_served (reqs : List NetRequest) {idle : Bool} (hidle : idle = false) :
    endSocket n (s.served n k reqs net) = s.served n { k with tickLive := idle } reqs net := by
  rw [endSocket, served_sock, served_setSock, hidle]

end

/-! ### A tick with one socket open -/

/-- The answer of a tick that began in `s` and whose one turn, of socket `n`, is served as `r`. -/
def soleTurn (s : State) (n : SockId) (r : Except State State) : Result := tickResult s (r.map (endSocket n))

section

variable {s : State} {n : SockId} {f : Fd} {r w : Bool} {net : List NetAnswer}

theorem State.onlyOpen.fd (h : s.onlyOpen n f) : (s.sock n).fd = some f := h.1

theorem State.onlyOpen.other (h : s.onlyOpen n f) {m : SockId} (hm : m ≠ n) : (s.sock m).fd = none := h.2.1 m hm

theorem State.onlyOpen.idle (h : s.onlyOpen n f) (m : SockId) : (s.sock m).tickLive = false := h.2.2 m

/-- R241: an open socket as the tick marks it for its turn. -/
def State.liveSock (s : State) (n : SockId) : Socket := { (s.sock n) with tickLive := true }

theorem markLive_sock_open (h : (s.sock n).fd = some f) : (markLive s).sock n = s.liveSock n := by
  have hopen : (s.sock n).fd.isSome = true := by rw [h]; rfl
  rw [markLive_sock, Socket.marked, hopen]
  rfl

theorem markLive_sock_closed (h : (s.sock n).fd = none) (hidle : (s.sock n).tickLive = false) :
    (markLive s).sock n = s.sock n := by
  have hsame : (s.sock n).fd.isSome = (s.sock n).tickLive := by rw [h, hidle]; rfl
  rw [markLive_sock, Socket.marked, hsame]

theorem markLive_onlyOpen (h : s.onlyOpen n f) : markLive s = s.served n (s.liveSock n) [] s.netIn := by
  have hsocks : (markLive s).socks = s.socks.set n (s.liveSock n) := Quad.ext_get _ _ fun m => by
    rw [Quad.get_set]
    split
    · next hm => rw [hm]; exact markLive_sock_open h.fd
    · next hm => exact markLive_sock_closed (h.other hm) (h.idle m)
  rw [State.served, ← hsocks]
  rfl

/-- A tick with one socket open, which is a candidate and is answered `ready`, is its two sub-steps. -/
theorem exec_tick_ready (h : s.onlyOpen n f) (hnet : s.netIn = .ready r w :: net)
    (hcand : (wantRead (s.sock n) || wantWrite (s.sock n)) = true) :
    exec .tick s = soleTurn s n (writePart n (w && wantWrite (s.sock n)) (readPart n (r && wantRead (s.sock n))
      (s.served n (s.liveSock n) [.ready (s.sock n).fd (wantRead (s.sock n)) (wantWrite (s.sock n))] net))) := by
  have honly : ([0, 1, 2, 3].filter fun i => (s.sock i).fd.isSome) = [n] := by
    rw [← (by decide : ∀ n : SockId, ([0, 1, 2, 3].filter fun i => decide (i = n)) = [n]) n]
    refine List.filter_congr fun i _ => ?_
    by_cases hi : i = n
    · simp [hi, h.fd]
    · simp [hi, h.other hi]
  rw [exec_tick_turns, turns_markLive, honly, turns_singleton, markLive_onlyOpen h, hnet,
    tickSocket_ready (k := s.liveSock n) [] rfl hcand]
  rfl

/-- The turn goes through: the socket is left as its sub-steps leave it, and its mark is as before the tick. -/
theorem soleTurn_ok (h : s.onlyOpen n f) (t : State) (k : Socket) (reqs : List NetRequest) :
    soleTurn s n (.ok (t.served n k reqs net)) =
      .next (t.afterRequests n { k with tickLive := (s.sock n).tickLive } reqs net) :=
  congrArg (fun u => Host.Outcome.next (answerNone u)) (endSocket_served reqs (h.idle n))

/-- The model fault ends the turn. -/
theorem soleTurn_fault (h : s.fault = none) (m : Memory) (k : Socket) (reqs : List NetRequest) :
    soleTurn s n (.error (raiseFault .dgramTooLong (({ s with mem := m } : State).served n k reqs net))) =
      .next { (s.afterRequests n (s.sock n) reqs net) with fault := some .dgramTooLong } := by
  have hsocks : s.socks = s.socks.set n (s.sock n) := (Quad.set_get _ _).symm
  rw [raiseFault_eq, State.afterRequests, ← hsocks]
  simp only [soleTurn, tickResult, Except.map, State.served, h]
  rfl

/-- A tick with one Udp socket open. -/
theorem exec_tick_udp (h : s.onlyOpen n f) (hs : (s.sock n).state = .udp) (hnet : s.netIn = .ready r w :: net)
    (hcand : (s.sock n).rxAvail + 9 ≤ 2048 ∨ (s.sock n).writePending = true) :
    exec .tick s = soleTurn s n (writePart n (w && (s.sock n).writePending)
      (readPart n (r && decide ((s.sock n).rxAvail + 9 ≤ 2048)) (s.served n (s.liveSock n)
        [.ready (s.sock n).fd (decide ((s.sock n).rxAvail + 9 ≤ 2048)) (s.sock n).writePending] net))) := by
  have hr : wantRead (s.sock n) = decide ((s.sock n).rxAvail + 9 ≤ 2048) := by simp [wantRead_eq, hs]
  have hw : wantWrite (s.sock n) = (s.sock n).writePending := by simp [wantWrite, hs]
  rw [exec_tick_ready h hnet (by rw [hr, hw]; simpa using hcand), hr, hw]

/-- A tick with one stream socket open. -/
theorem exec_tick_tcp (h : s.onlyOpen n f) (hs : (s.sock n).state = .established ∨ (s.sock n).state = .closeWait)
    (hnet : s.netIn = .ready r w :: net)
    (hcand : (s.sock n).rxAvail < 2048 ∨ (s.sock n).writePending = true) :
    exec .tick s = soleTurn s n (writePart n (w && (s.sock n).writePending)
      (readPart n (r && decide ((s.sock n).rxAvail < 2048)) (s.served n (s.liveSock n)
        [.ready (s.sock n).fd (decide ((s.sock n).rxAvail < 2048)) (s.sock n).writePending] net))) := by
  have hr : wantRead (s.sock n) = decide ((s.sock n).rxAvail < 2048) := by
    obtain hs | hs := hs <;> simp [wantRead_eq, hs]
  have hw : wantWrite (s.sock n) = (s.sock n).writePending := by
    obtain hs | hs := hs <;> simp [wantWrite, hs]
  rw [exec_tick_ready h hnet (by rw [hr, hw]; simpa using hcand), hr, hw]

end

/-! ### Datagrams (R252 to R254) -/

/-- What the marked socket sends is what the TX ring holds (R214). -/
theorem txHolds_live (s : State) (n : SockId) (len : Nat) :
    s.txHolds n len (txBytes s n (ringOff (s.liveSock n).txRR) len) :=
  txBytes_txHolds s n len

/-- A datagram cut to the room left is stored behind the data held (R219, R220, R222). -/
theorem filled_dgram (s : State) (n : SockId) {q : List Byte} (ip : Ip4) (port : Word)
    (hroom : (s.sock n).rxAvail + 9 ≤ 2048) (hq : q.length ≤ 2040 - (s.sock n).rxAvail) :
    s.rxStored n (dgramImage q ip port) (s.filled n (s.liveSock n) (dgramImage q ip port)).mem := by
  refine rxWrite_rxStored s n _ ?_
  simp only [dgramImage, List.length_append, List.length_cons, List.length_nil, bufSize]
  omega

/-- Settles O47: the read sub-step stores the datagram or nothing; the flush after it sends what the TX ring held. -/
theorem udpDatagramArrivesBehindItsPseudoHeader : Obligations.UdpDatagramArrivesBehindItsPseudoHeader := by
  intro s n f net h hudp hroom
  rw [← h.fd]
  have hstored : ∀ (p : List Byte) (ip : Ip4) (port : Word), s.rxStored n
      (dgramImage (p.take (2040 - (s.sock n).rxAvail)) ip port) _ := fun p ip port =>
    filled_dgram s n ip port hroom (List.length_take_le _ _)
  have htick : ∀ {w : Bool} {net : List NetAnswer}, s.netIn = .ready true w :: net → exec .tick s =
      soleTurn s n (writePart n (w && (s.sock n).writePending) (udpRecvStep n (s.served n (s.liveSock n)
        [.ready (s.sock n).fd true (s.sock n).writePending] net))) := fun hnet => by
    rw [exec_tick_udp h hudp hnet (.inl hroom), decide_eq_true hroom, Bool.true_and, readPart_udp]
    exact hudp
  refine ⟨fun w p q ip port hquiet hq hnet => ⟨_, hq ▸ hstored p ip port, ?stored⟩,
    fun p q ip port len rest hp hdgq hlen hq hnet => ⟨_, _, hq ▸ hstored p ip port, txHolds_live s n _, ?storedSent⟩,
    fun w hquiet hnet => ?err, fun len rest hp hdgq hlen hnet => ⟨_, txHolds_live s n _, ?errSent⟩⟩
  case stored =>
    rw [htick hnet, udpRecvStep_dgram, writePart_quiet, soleTurn_ok h, hq]
    · rfl
    exacts [hquiet.imp_right .inl]
  case storedSent =>
    rw [htick hnet, hp, Bool.true_and, udpRecvStep_dgram, writePart_udp, udpFlush_sent, sendToOf_filled,
      soleTurn_ok h, hq, BitVec.or_assoc]
    · rfl
    exacts [hp, hdgq, hlen, le_rfl, rfl, hudp, hp]
  case err =>
    rw [htick hnet, udpRecvStep_err, writePart_quiet, soleTurn_ok h]
    · rfl
    exacts [hquiet.imp_right .inl]
  case errSent =>
    rw [htick hnet, hp, Bool.true_and, udpRecvStep_err, writePart_udp, udpFlush_sent, soleTurn_ok h]
    · rfl
    exacts [hp, hdgq, hlen, le_rfl, rfl, hudp, hp]

/-- Settles O50: the three ends of a datagram flush; a short count and `Err` are the same failed send. -/
theorem datagramFlushSendsTheOldestOrKeepsIt : Obligations.DatagramFlushSendsTheOldestOrKeepsIt := by
  intro s n f net h hudp hp
  rw [← h.fd]
  have htick : ∀ {net : List NetAnswer}, s.netIn = .ready false true :: net → exec .tick s =
      soleTurn s n (udpFlush n (s.served n (s.liveSock n)
        [.ready (s.sock n).fd (decide ((s.sock n).rxAvail + 9 ≤ 2048)) true] net)) := fun hnet => by
    rw [exec_tick_udp h hudp hnet (.inr hp), Bool.false_and, readPart_none, hp, Bool.true_and, writePart_udp]
    exacts [rfl, hudp, hp]
  refine ⟨fun len rest a hq hlen hnet => ⟨_, txHolds_live s n _, ?sent, fun ha => ?short⟩, fun hq hnet => ?empty⟩
  case sent =>
    rintro k rfl hk
    rw [htick hnet, udpFlush_sent, soleTurn_ok h]
    · rfl
    exacts [hp, hq, hlen, hk]
  case short =>
    have hshort : answerSent len.toNat a ≠ some len.toNat := by
      obtain rfl | ⟨k, rfl, hk⟩ := ha
      · exact nofun
      · simp only [answerSent, ne_eq, Option.some.injEq]
        omega
    rw [htick hnet, udpFlush_short (len := len) (rest := rest), shortSend_eq, soleTurn_ok h]
    · rfl
    exacts [hp, hq, hlen, hshort]
  case empty =>
    rw [htick hnet, udpFlush_empty, soleTurn_ok h]
    · rfl
    exacts [hq]

/-- Settles O51: the fault is raised before any request of the flush, and what a receive stored is not kept. That a
fault of a tick is always this one is `exec_tick_cases`. -/
theorem overlongDatagramRaisesTheModelFault : Obligations.OverlongDatagramRaisesTheModelFault := by
  refine ⟨fun s n f len rest net h hudp hp hq hlong hfault => ?_, fun s t ht hs hraised => ?raised⟩
  · rw [← h.fd]
    refine ⟨fun hnet => ?alone, fun a hroom hnet => ?received⟩
    case alone =>
      rw [exec_tick_udp h hudp hnet (.inr hp), Bool.false_and, readPart_none, hp, Bool.true_and, writePart_udp,
        udpFlush_overlong (len := len) (rest := rest), soleTurn_fault hfault s.mem]
      exacts [hq, hlong, rfl, hudp, hp]
    case received =>
      obtain ⟨m, avail, ir, hread⟩ := udpRecvStep_any s n (k := s.liveSock n)
        [.ready (s.sock n).fd true true] net a
      rw [exec_tick_udp h hudp hnet (.inl hroom), decide_eq_true hroom, hp, Bool.true_and, readPart_udp, hread,
        writePart_udp, udpFlush_overlong (len := len) (rest := rest), soleTurn_fault hfault m]
      · rfl
      exacts [hq, hlong, rfl, hudp, hp, hudp]
  case raised =>
    obtain ⟨u, hu, hf⟩ | ⟨u, hu, hf⟩ := exec_tick_cases s
    · obtain rfl : answerNone u = t := by simpa [hu] using ht
      exact absurd (hf.fault.trans hs) hraised
    · obtain rfl : answerNone (s.endedByFault (raiseFault .dgramTooLong u)) = t := by simpa [hu] using ht
      have hkind : (raiseFault .dgramTooLong u).fault = some .dgramTooLong := by
        rw [raiseFault_fault, hf.fault, hs]
        rfl
      rw [State.endedByFault, hkind]
      rfl

/-! ### Streams (R249 to R251, R255 to R258) -/

/-- A tick with one open stream socket that has free RX space and is readable. -/
theorem exec_tick_tcp_readable {s : State} {n : SockId} {f : Fd} {w : Bool} {net : List NetAnswer}
    (h : s.onlyOpen n f) (hs : (s.sock n).state = .established ∨ (s.sock n).state = .closeWait)
    (hfree : (s.sock n).rxAvail < 2048) (hnet : s.netIn = .ready true w :: net) :
    exec .tick s = soleTurn s n (writePart n (w && (s.sock n).writePending) (tcpRecvStep n
      (s.served n (s.liveSock n) [.ready (s.sock n).fd true (s.sock n).writePending] net))) := by
  rw [exec_tick_tcp h hs hnet (.inl hfree), decide_eq_true hfree, Bool.true_and, readPart_tcp]
  exact hs

theorem withMark_ite (c : Prop) [Decidable c] (k l : Socket) (live : Bool) :
    ({ (if c then k else l) with tickLive := live } : Socket) =
      if c then { k with tickLive := live } else { l with tickLive := live } :=
  apply_ite (fun k : Socket => { k with tickLive := live }) c k l

/-- Settles O48: the read sub-step stores the data or nothing; the flush that follows in Established offers the chunk
that the TX ring held. -/
theorem tcpDataArriveInTheRing : Obligations.TcpDataArriveInTheRing := by
  intro s n f net h
  rw [← h.fd]
  have hstored : ∀ {b : List Byte}, b.length + (s.sock n).rxAvail ≤ 2048 →
      s.rxStored n b (s.filled n (s.liveSock n) b).mem := fun hfit =>
    rxWrite_rxStored s n _ ((Nat.le_add_right _ _).trans hfit)
  have hfree : ∀ {b : List Byte}, 1 ≤ b.length → b.length + (s.sock n).rxAvail ≤ 2048 →
      (s.sock n).rxAvail < 2048 := fun hpos hfit => by omega
  refine ⟨?stored, ?storedSent, ?err, ?errSent⟩
  case stored =>
    intro w b hs hquiet hpos hfit hnet
    refine ⟨_, hstored hfit, ?_⟩
    rw [exec_tick_tcp_readable h hs (hfree hpos hfit) hnet, tcpRecvStep_data, writePart_quiet, soleTurn_ok h]
    · rfl
    exacts [hquiet, hpos, hfit]
  case storedSent =>
    rintro b _ k hest hp hpos hfit rfl hc hk hnet
    refine ⟨_, _, hstored hfit, txHolds_live s n _, ?_⟩
    rw [exec_tick_tcp_readable h (.inl hest) (hfree hpos hfit) hnet, hp, Bool.true_and, tcpRecvStep_data,
      writePart_established, tcpFlush_sent, sendOf_filled, flushDone_advanced, soleTurn_ok h, withMark_ite,
      BitVec.or_assoc]
    · rfl
    exacts [hc, hk, rfl, hest, hp, hpos, hfit]
  case err =>
    intro w hs hquiet hroom hnet
    rw [exec_tick_tcp_readable h hs hroom hnet, tcpRecvStep_err, writePart_quiet, soleTurn_ok h]
    · rfl
    exacts [hquiet]
  case errSent =>
    rintro _ k hest hp hroom rfl hc hk hnet
    refine ⟨_, txHolds_live s n _, ?_⟩
    rw [exec_tick_tcp_readable h (.inl hest) hroom hnet, hp, Bool.true_and, tcpRecvStep_err, writePart_established,
      tcpFlush_sent, flushDone_advanced, soleTurn_ok h, withMark_ite]
    · rfl
    exacts [hc, hk, rfl, hest, hp]

theorem closing_some {fd : Option Fd} {f : Fd} (h : fd = some f) : closing fd = [.close f] := by
  rw [h]
  rfl

/-- Settles O49: in CloseWait no flush is run, and after the release the socket has no descriptor to write to. -/
theorem endOfStreamHalfClosesThenCloses : Obligations.EndOfStreamHalfClosesThenCloses := by
  intro s n f net h
  have hclose : closing (s.liveSock n).fd = [.close f] := closing_some h.fd
  rw [← h.fd]
  refine ⟨fun w hfree hnet => ⟨fun hest => ?first, fun hwait => ?second⟩, fun hwait hp hnet => ?noFlush⟩
  case first =>
    rw [exec_tick_tcp_readable h (.inl hest) hfree hnet, tcpRecvStep_eof_established, writePart_closeWait,
      soleTurn_ok h]
    · rfl
    exacts [rfl, hest]
  case second =>
    rw [exec_tick_tcp_readable h (.inr hwait) hfree hnet, tcpRecvStep_eof_closeWait, writePart_dead, soleTurn_ok h,
      h.idle n, hclose]
    · rfl
    exacts [rfl, hwait]
  case noFlush =>
    rw [exec_tick_tcp h (.inr hwait) hnet (.inr hp), Bool.false_and, readPart_none, writePart_closeWait,
      soleTurn_ok h, hp]
    · rfl
    exacts [hwait]

/-- Settles O52: the chunk is what the TX ring holds; `flushDone_advanced` tells the complete flush from the others. -/
theorem streamFlushSendsWithoutStraddling : Obligations.StreamFlushSendsWithoutStraddling := by
  intro s n f net h hest hp
  rw [← h.fd]
  have htick : ∀ {net : List NetAnswer}, s.netIn = .ready false true :: net → exec .tick s =
      soleTurn s n (.ok (tcpFlush n (s.served n (s.liveSock n)
        [.ready (s.sock n).fd (decide ((s.sock n).rxAvail < 2048)) true] net))) := fun hnet => by
    rw [exec_tick_tcp h (.inl hest) hnet (.inr hp), Bool.false_and, readPart_none, hp, Bool.true_and,
      writePart_established]
    exacts [rfl, hest, hp]
  refine ⟨?chunk, fun hempty hnet => ?empty⟩
  case chunk =>
    rintro _ a rfl hc hnet
    refine ⟨_, txHolds_live s n _, ?complete, ?incomplete, ?err⟩
    case complete =>
      rintro k rfl hk hall
      rw [htick hnet, tcpFlush_sent, flushDone_advanced, if_pos, soleTurn_ok h]
      · rfl
      exacts [hall, hc, hk]
    case incomplete =>
      rintro k rfl hk hmore
      rw [htick hnet, tcpFlush_sent, flushDone_advanced, if_neg, soleTurn_ok h]
      · rfl
      exacts [hmore, hc, hk]
    case err =>
      rintro rfl
      rw [htick hnet, tcpFlush_err, soleTurn_ok h]
      · rfl
      exacts [hc]
  case empty =>
    rw [htick hnet, tcpFlush_empty, soleTurn_ok h]
    · rfl
    exacts [hempty]

/-! ### The accept (R247, R248) -/

/-- Settles O54: a token other than the listening one is held by no socket, so the accept succeeds. -/
theorem acceptReplacesTheListeningDescriptor : Obligations.AcceptReplacesTheListeningDescriptor := by
  intro s n f g ip port net h hs hp
  have hclose : closing (s.liveSock n).fd = [.close f] := closing_some h.fd
  have htick : ∀ {net : List NetAnswer}, s.netIn = .ready true false :: net → exec .tick s =
      soleTurn s n (.ok (acceptStep n
        (s.served n (s.liveSock n) [.ready (s.sock n).fd true false] net))) := fun hnet => by
    have hr : wantRead (s.sock n) = true := by rw [wantRead, hs]
    have hw : wantWrite (s.sock n) = false := by simp [wantWrite, hs, hp]
    rw [exec_tick_ready h hnet (by rw [hr]; rfl), hr, hw, Bool.true_and, readPart_listen, Bool.false_and,
      writePart_none]
    exact hs
  refine ⟨fun hg hnet => ?accepted, fun hnet => ?fail⟩
  case accepted =>
    have hfresh : ∀ reqs net m, ((s.served n (s.liveSock n) reqs net).sock m).fd ≠ some g := fun reqs net m => by
      rw [served_sock_eq]
      split
      · exact fun heq => hg (Option.some.inj (heq.symm.trans h.fd))
      · next hm => rw [h.other hm]; exact nofun
    rw [htick hnet, acceptStep_accepted s n _ _ ip port (hfresh _ _), soleTurn_ok h, hclose, ← h.fd]
    rfl
  case fail =>
    rw [htick hnet, acceptStep_fail, soleTurn_ok h, ← h.fd]
    rfl

/-! ### The connect completion (R259) -/

section

variable {s : State} {n : SockId} {w : Bool} {net : List NetAnswer}

theorem wantRead_connecting {k : Socket} (hs : k.state = .connecting) : wantRead k = false := by rw [wantRead, hs]

theorem wantWrite_connecting {k : Socket} (hs : k.state = .connecting) : wantWrite k = true := by simp [wantWrite, hs]

/-- The turn of a writable Connecting socket that the tick has marked. -/
theorem tickSocket_connecting {u : State} (hu : u.sock n = s.liveSock n) (hs : (s.sock n).state = .connecting)
    (hnet : u.netIn = .ready false true :: net) :
    tickSocket n u = .ok (endSocket n (connectDone n
      (u.served n (s.liveSock n) [.ready (s.sock n).fd false true] net))) := by
  have hstart := served_start u n
  rw [hu, hnet] at hstart
  conv_lhs => rw [← hstart]
  rw [tickSocket_ready (k := s.liveSock n) [] rfl (by rw [wantWrite_connecting (k := s.liveSock n) hs, Bool.or_true]),
    wantRead_connecting (k := s.liveSock n) hs, wantWrite_connecting (k := s.liveSock n) hs, Bool.false_and,
    readPart_none, Bool.true_and, writePart_connecting]
  · rfl
  exacts [rfl, hs]

end

/-- With two sockets open the tick has two turns, the lower socket's first. -/
theorem open_pair {s : State} {n m : SockId} (hnm : n < m) (hn : (s.sock n).fd.isSome = true)
    (hm : (s.sock m).fd.isSome = true) (hother : ∀ i, i ≠ n → i ≠ m → (s.sock i).fd = none) :
    ([0, 1, 2, 3].filter fun i => (s.sock i).fd.isSome) = [n, m] := by
  rw [← (by decide : ∀ n m : SockId, n < m →
    ([0, 1, 2, 3].filter fun i => decide (i = n ∨ i = m)) = [n, m]) n m hnm]
  refine List.filter_congr fun i _ => ?_
  by_cases hi : i = n ∨ i = m
  · obtain rfl | rfl := hi <;> simp [hn, hm]
  · obtain ⟨hin, him⟩ := not_or.mp hi
    simp [hin, him, hother i hin him]

/-- Settles O53: one open socket has one turn; of two the lower has its turn first and leaves the other marked. -/
theorem connectCompletionSetsConEitherWay : Obligations.ConnectCompletionSetsConEitherWay := by
  refine ⟨fun s n f net h hs => ?one, fun s n m f g net hnm hn hm hother hidle hsn hsm hnet => ?two⟩
  case one =>
    have hclose : closing (s.liveSock n).fd = [.close f] := closing_some h.fd
    have htick : ∀ {w : Bool} {net : List NetAnswer}, s.netIn = .ready false w :: net → exec .tick s =
        soleTurn s n (writePart n w (s.served n (s.liveSock n) [.ready (s.sock n).fd false true] net)) := fun hnet => by
      rw [exec_tick_ready h hnet (by rw [wantWrite_connecting hs, Bool.or_true]), wantRead_connecting hs,
        wantWrite_connecting hs, Bool.false_and, readPart_none, Bool.and_true]
    rw [← h.fd]
    refine ⟨fun hnet => ?ok, fun hnet => ?fail, fun hnet => ?notWritable⟩
    case ok =>
      rw [htick hnet, writePart_connecting, connectDone_ok, soleTurn_ok h]
      · rfl
      exacts [rfl, hs]
    case fail =>
      rw [htick hnet, writePart_connecting, connectDone_fail, soleTurn_ok h, hclose, h.idle n]
      · rfl
      exacts [rfl, hs]
    case notWritable =>
      rw [htick hnet, writePart_none, soleTurn_ok h]
      rfl
  case two =>
    have hsocks : ∀ k l, ((markLive s).socks.set n k).set m l = (s.socks.set n k).set m l := fun k l =>
      Quad.ext_get _ _ fun i => by
        simp only [Quad.get_set]
        split_ifs with him hin
        · rfl
        · rfl
        · exact markLive_sock_closed (hother i hin him) (hidle i)
    have hmlive : ∀ k reqs net, ((markLive s).served n k reqs net).sock m = s.liveSock m := fun k reqs net => by
      rw [served_sock_eq, if_neg hnm.ne', markLive_sock_open hm]
    have hclose : closing (s.liveSock n).fd = [.close f] := closing_some hn
    rw [exec_tick_turns, turns_markLive, open_pair hnm (by rw [hn]; rfl) (by rw [hm]; rfl) hother, turns,
      tickSocket_connecting (markLive_sock_open hn) hsn hnet, connectDone_fail, endSocket_served _ rfl, hclose, ← hn,
      ← hm]
    simp only [turns, tickSocket_connecting (hmlive _ _ _) hsm rfl, connectDone_ok, endSocket_served _ (hidle m)]
    simp only [tickResult, answerNone, State.served, hsocks]
    rfl

end Sys2Proof.Machine
end

section
/-! SUPPORT. What no operation of the block undoes (spec/60_exceptions.md R278, R286; log 6). `State.Steady s t` says
of a state `t` that came from `s` that the open parameters are the same, a model fault already raised is still there,
and a TIMEOUT bit that was 0 is 0. Each shared operation goes on steadily, the resets and a faulting tick included, so
every step does. -/

namespace Sys2Proof.Machine

/-! ### One socket (R278) -/

/-- The TIMEOUT bit of `Sn_IR` (R26) is 0. -/
def Socket.NoTimeout (k : Socket) : Prop := k.ir.getLsbD 3 = false

namespace Socket.NoTimeout

variable {k : Socket}

/-- Setting any other interrupt bit leaves TIMEOUT. -/
theorem raise (h : k.NoTimeout) {b : IrBit} (hb : b ≠ .timeout) : (k.raise b).NoTimeout := by
  have hmask : (irMask b).getLsbD 3 = false := by
    cases b with
    | timeout => exact absurd rfl hb
    | con | discon | recv | sendok => rfl
  unfold NoTimeout Socket.raise
  rw [BitVec.getLsbD_or, h, hmask]
  rfl

/-- R142: a write to `Sn_IR` can only clear the bit. -/
theorem clearIr (h : k.NoTimeout) (v : Byte) : { k with ir := clearIr k.ir v }.NoTimeout := by
  unfold NoTimeout
  rw [clearIr_getLsbD _ _ (by decide), h, Bool.false_and]

theorem accepted (h : k.NoTimeout) (p : Params) (fd : Fd) (ip : Ip4) (port : Word) :
    (k.accepted p fd ip port).NoTimeout := by
  cases hcon : p.acceptSetsCon with
  | true => simpa [NoTimeout, Socket.accepted, Socket.raise, hcon] using h.raise (b := .con) nofun
  | false => simpa [NoTimeout, Socket.accepted, hcon] using h

theorem received (h : k.NoTimeout) : k.received.NoTimeout := by
  unfold Socket.received
  split
  · exact h.raise (b := .recv) nofun
  · exact h

theorem shortSend (h : k.NoTimeout) (p : Params) : (k.shortSend p).NoTimeout := by
  unfold Socket.shortSend
  split
  · exact h
  · exact h

theorem flushDone (h : k.NoTimeout) : k.flushDone.NoTimeout := by
  unfold Socket.flushDone
  split
  · exact h.raise (b := .sendok) nofun
  · exact h

end Socket.NoTimeout

/-! ### The state -/

/-- What every operation of the block that goes from `s` to `t` grants. -/
structure State.Steady (s t : State) : Prop where
  params : t.params = s.params
  fault : ∀ k, s.fault = some k → t.fault = some k
  timeout : ∀ n, (s.sock n).NoTimeout → (t.sock n).NoTimeout

namespace State.Steady

variable {s t u : State}

theorem refl (s : State) : s.Steady s := ⟨rfl, fun _ => id, fun _ => id⟩

theorem trans (h : s.Steady t) (g : t.Steady u) : s.Steady u :=
  ⟨g.params.trans h.params, fun k hk => g.fault k (h.fault k hk), fun n hn => g.timeout n (h.timeout n hn)⟩

/-- Only the open parameters, the fault flag and the sockets matter. -/
theorem frame (h : s.Steady t) (hp : u.params = t.params) (hf : u.fault = t.fault) (hk : u.socks = t.socks) :
    s.Steady u := by
  have hsock : ∀ n, u.sock n = t.sock n := fun n => congrArg (Quad.get · n) hk
  exact h.trans ⟨hp, fun _ hk => hf.trans hk, fun n hn => hsock n ▸ hn⟩

theorem after_asked (h : s.Steady t) (q : NetRequest) : s.Steady (t.asked q) := h.frame rfl rfl rfl

theorem after_answerNone (h : s.Steady t) : s.Steady (answerNone t) := h.frame rfl rfl rfl

theorem after_closeFd (h : s.Steady t) (fd : Option Fd) : s.Steady (t.closeFd fd) := by
  rw [closeFd_closing]; exact h.frame rfl rfl rfl

theorem after_autoInc (h : s.Steady t) (ai ended : Bool) : s.Steady (autoInc ai ended t) := by
  rw [autoInc_eq]; exact h.frame rfl rfl rfl

theorem after_rxWrite (h : s.Steady t) (n : SockId) (o : Nat) (b : List Byte) : s.Steady (rxWrite n o b t) := by
  obtain ⟨m, hm⟩ := rxWrite_eq n o b t
  rw [hm]; exact h.frame rfl rfl rfl

/-- R286: an earlier fault stays. -/
theorem after_raiseFault (h : s.Steady t) (k : FaultKind) : s.Steady (raiseFault k t) where
  params := by rw [raiseFault_eq]; exact h.params
  fault := fun j hj => by rw [raiseFault_fault, h.fault j hj]; rfl
  timeout := fun n hn => by rw [raiseFault_sock]; exact h.timeout n hn

theorem after_setSock (h : s.Steady t) {n : SockId} {k : Socket} (hk : (t.sock n).NoTimeout → k.NoTimeout) :
    s.Steady (t.setSock n k) := by
  refine h.trans ⟨rfl, fun _ => id, fun m hm => ?_⟩
  obtain rfl | hne := eq_or_ne m n
  · rw [sock_setSock_same]; exact hk hm
  · rw [sock_setSock_other _ _ _ _ hne]; exact hm

theorem after_raiseIr (h : s.Steady t) (n : SockId) {b : IrBit} (hb : b ≠ .timeout) : s.Steady (t.raiseIr n b) :=
  h.after_setSock fun hk => hk.raise hb

/-! ### The shared socket procedures -/

theorem after_release (h : s.Steady t) (n : SockId) : s.Steady (release n t) :=
  (h.after_closeFd _).after_setSock fun hk => by rw [closeFd_sock] at hk; exact hk

theorem after_disconnect (h : s.Steady t) (n : SockId) : s.Steady (disconnect n t) :=
  (h.after_raiseIr n (b := .discon) nofun).after_release n

theorem after_tryBind (h : s.Steady t) (n : SockId) : s.Steady (tryBind n t) := by
  obtain ⟨-, -, heq⟩ | ⟨-, -, -, heq⟩ | ⟨-, -, -, heq⟩ := tryBind_cases n t <;> rw [heq]
  · exact h
  · exact (h.after_asked _).after_setSock id
  · exact (h.after_asked _).after_disconnect n

/-! ### Commands and port writes -/

theorem after_openSocket (h : s.Steady t) (kind : SockKind) (next : SockState) (n : SockId) :
    s.Steady (openSocket kind next n t) := by
  unfold openSocket
  split
  · next fd _ =>
    have hopen : s.Steady ((t.asked (.socket kind)).setSock n ((t.sock n).opened fd next)) :=
      (h.after_asked _).after_setSock id
    simp only
    split
    · exact hopen.after_tryBind n
    · exact hopen
  · exact h.after_asked _

theorem after_listenBound (h : s.Steady t) (n : SockId) : s.Steady (listenBound n t) := by
  unfold listenBound
  split
  · exact (h.after_asked _).after_setSock id
  · exact h.after_asked _

theorem after_connectBound (h : s.Steady t) (n : SockId) : s.Steady (connectBound n t) := by
  unfold connectBound
  split
  · exact (h.after_asked _).after_setSock fun hk => hk.raise (b := .con) nofun
  · exact (h.after_asked _).after_setSock id
  · exact (h.after_asked _).after_disconnect n

theorem after_writePort (h : s.Steady t) (n : SockId) (w : Word) : s.Steady (writePort n w t) := by
  have hw : s.Steady (t.setSock n ((t.sock n).portWritten w)) := h.after_setSock id
  unfold writePort
  split
  · exact hw.after_tryBind n
  · exact hw

theorem after_udpSend (h : s.Steady t) (n : SockId) : s.Steady (udpSend n t) := by
  unfold udpSend
  split
  · exact h.after_raiseFault _
  · exact h.after_setSock id

/-! ### Read sub-steps -/

theorem after_rxAppend (h : s.Steady t) (n : SockId) (b : List Byte) : s.Steady (rxAppend n b t) :=
  (h.after_rxWrite n _ b).after_setSock fun hk => by rw [rxWrite_sock] at hk; exact hk

theorem after_acceptStep (h : s.Steady t) (n : SockId) : s.Steady (acceptStep n t) := by
  unfold acceptStep
  split
  · exact ((h.after_asked _).after_closeFd _).after_setSock fun hk => by
      rw [closeFd_sock] at hk; exact hk.accepted _ _ _ _
  · exact h.after_asked _

theorem after_eofStep (h : s.Steady t) (n : SockId) : s.Steady (eofStep n t) := by
  unfold eofStep
  split
  · exact h.after_setSock id
  · exact h.after_disconnect n

theorem after_tcpRecvStep (h : s.Steady t) (n : SockId) : s.Steady (tcpRecvStep n t) := by
  unfold tcpRecvStep
  split
  · exact ((h.after_asked _).after_rxAppend n _).after_raiseIr n nofun
  · exact (h.after_asked _).after_eofStep n
  · exact h.after_asked _

theorem after_udpRecvStep (h : s.Steady t) (n : SockId) : s.Steady (udpRecvStep n t) := by
  unfold udpRecvStep
  split
  · exact ((h.after_asked _).after_rxAppend n _).after_raiseIr n nofun
  · exact h.after_asked _

theorem after_readPart (h : s.Steady t) (n : SockId) (r : Bool) : s.Steady (readPart n r t) := by
  unfold readPart readStep
  split
  · split
    · exact h.after_acceptStep n
    · exact h.after_tcpRecvStep n
    · exact h.after_tcpRecvStep n
    · exact h.after_udpRecvStep n
    all_goals exact h
  · exact h

/-! ### Write sub-steps -/

theorem after_tcpSend (h : s.Steady t) (n : SockId) : s.Steady (tcpSend n t) := by
  unfold tcpSend
  split
  · exact h
  · split
    · exact (h.after_asked _).after_setSock id
    · exact h.after_asked _

theorem after_tcpFlush (h : s.Steady t) (n : SockId) : s.Steady (tcpFlush n t) :=
  (h.after_tcpSend n).after_setSock fun hk => hk.flushDone

theorem after_connectDone (h : s.Steady t) (n : SockId) : s.Steady (connectDone n t) := by
  unfold connectDone
  split
  · exact (h.after_asked _).after_setSock fun hk => hk.raise (b := .con) nofun
  · exact ((h.after_asked _).after_raiseIr n (b := .con) nofun).after_release n

end State.Steady

/-- However a part of a tick ends, the state it ends in came steadily from `s`: the model fault is no exception. -/
def EndsSteady (s : State) (r : Except State State) : Prop :=
  ∀ t, r = .ok t ∨ r = .error t → s.Steady t

theorem EndsSteady.ok {s t : State} (h : s.Steady t) : EndsSteady s (.ok t) := by
  rintro u (hu | hu) <;> cases hu
  exact h

theorem EndsSteady.error {s t : State} (h : s.Steady t) : EndsSteady s (.error t) := by
  rintro u (hu | hu) <;> cases hu
  exact h

namespace State.Steady

variable {s t : State}

theorem ends_udpFlush (h : s.Steady t) (n : SockId) : EndsSteady s (udpFlush n t) := by
  unfold udpFlush
  split
  · exact .ok (h.after_setSock id)
  · split_ifs
    · exact .error (h.after_raiseFault _)
    · exact .ok ((h.after_asked _).after_setSock fun hk => hk.raise (b := .sendok) nofun)
    · exact .ok ((h.after_asked _).after_setSock fun hk => hk.shortSend _)

theorem ends_writeStep (h : s.Steady t) (n : SockId) : EndsSteady s (writeStep n t) := by
  unfold writeStep
  split
  · exact .ok (h.after_connectDone n)
  · split
    · exact h.ends_udpFlush n
    · exact .ok h
  · split
    · exact .ok (h.after_tcpFlush n)
    · exact .ok h
  all_goals exact .ok h

/-! ### The tick -/

theorem ends_serveSocket (h : s.Steady t) (n : SockId) : EndsSteady s (serveSocket n t) := by
  unfold serveSocket writePart
  split_ifs
  · exact ((h.after_asked _).after_readPart n _).ends_writeStep n
  · exact .ok ((h.after_asked _).after_readPart n _)
  · exact .ok h

theorem ends_tickSocket (h : s.Steady t) (n : SockId) : EndsSteady s (tickSocket n t) := by
  cases hlive : (t.sock n).tickLive with
  | false => rw [tickSocket_dead n t hlive]; exact .ok h
  | true =>
    have hserve := h.ends_serveSocket n
    rw [tickSocket_live hlive]
    cases hr : serveSocket n t with
    | ok u => exact .ok ((hserve u (.inl hr)).after_setSock id)
    | error u => exact .error (hserve u (.inr hr))

theorem ends_turns (h : s.Steady t) (l : List SockId) : EndsSteady s (turns l t) := by
  induction l generalizing t with
  | nil => exact .ok h
  | cons n rest ih =>
    have hturn := h.ends_tickSocket n
    unfold turns
    split
    · next u hu => exact ih (hturn u (.inl hu))
    · next u hu => exact .error (hturn u (.inr hu))

theorem markLive (s : State) : s.Steady (markLive s) :=
  ⟨rfl, fun _ => id, fun n hn => by rw [markLive_sock]; exact hn⟩

/-- R241, R286: of a tick that faults, only the fault flag reaches the block. -/
theorem tickAll (s : State) : s.Steady (tickAll s) := by
  have hturns := (markLive s).ends_turns [0, 1, 2, 3]
  rw [← tickSockets_turns] at hturns
  obtain ⟨t, ht, heq⟩ | ⟨t, ht, heq⟩ := tickAll_cases s <;> rw [heq]
  · exact hturns t (.inl ht)
  · exact ⟨rfl, (hturns t (.inr ht)).fault, fun _ => id⟩

/-! ### The resets (R301 to R303): all four sockets are as at power-up, the fault flag and the parameters stay -/

theorem after_resetFields (h : s.Steady t) : s.Steady (resetFields t) where
  params := h.params
  fault := h.fault
  timeout := fun n _ => by rw [resetFields_sock]; rfl

theorem softReset (s : State) : s.Steady (softReset s) :=
  ((((refl s).after_release 0).after_release 1).after_release 2).after_release 3 |>.after_resetFields

theorem powerUpReset (s : State) : s.Steady (powerUpReset s) :=
  have hclosed : s.Steady (closeAll s) :=
    ((((refl s).after_closeFd _).after_closeFd _).after_closeFd _).after_closeFd _
  hclosed.after_resetFields.frame rfl rfl rfl

end State.Steady

/-! ### Instructions and steps -/

section Instructions

variable (s : State)

theorem execCmdOpen_steady (n : SockId) : NextMeets s.Steady (execCmdOpen n s) := by
  refine State.Steady.after_answerNone ?_
  split_ifs
  · exact .refl s
  · exact (State.Steady.refl s).after_openSocket _ _ n
  · exact (State.Steady.refl s).after_openSocket _ _ n
  · exact .refl s

theorem execCmdListen_steady (n : SockId) : NextMeets s.Steady (execCmdListen n s) := by
  have hbind := (State.Steady.refl s).after_tryBind n
  refine State.Steady.after_answerNone ?_
  split_ifs
  · exact .refl s
  · exact hbind.after_listenBound n
  · exact hbind

theorem execCmdConnect_steady (n : SockId) : NextMeets s.Steady (execCmdConnect n s) := by
  have hbind := (State.Steady.refl s).after_tryBind n
  refine State.Steady.after_answerNone ?_
  split_ifs
  · exact .refl s
  · exact hbind.after_connectBound n
  · exact hbind

theorem execCmdDiscon_steady (n : SockId) : NextMeets s.Steady (execCmdDiscon n s) := by
  refine State.Steady.after_answerNone ?_
  split
  · exact (State.Steady.refl s).after_disconnect n
  · exact (State.Steady.refl s).after_disconnect n
  all_goals exact .refl s

theorem execCmdSend_steady (n : SockId) : NextMeets s.Steady (execCmdSend n s) := by
  refine State.Steady.after_answerNone ?_
  split
  · exact (State.Steady.refl s).after_setSock id
  · exact (State.Steady.refl s).after_udpSend n
  all_goals exact .refl s

theorem execCmdRecv_steady (n : SockId) : NextMeets s.Steady (execCmdRecv n s) := by
  have hrecv : s.Steady (s.setSock n (s.sock n).received) := (State.Steady.refl s).after_setSock fun hk => hk.received
  refine State.Steady.after_answerNone ?_
  split
  · exact hrecv
  · exact hrecv
  · exact hrecv
  all_goals exact .refl s

theorem execWrMr_steady (v : Byte) : NextMeets s.Steady (execWrMr v s) := by
  refine State.Steady.after_answerNone ?_
  split_ifs
  · exact .softReset s
  · exact (State.Steady.refl s).frame rfl rfl rfl

/-- A register write into one socket. -/
theorem setSock_steady {n : SockId} {k : Socket} (hk : (s.sock n).NoTimeout → k.NoTimeout) :
    s.Steady (answerNone (s.setSock n k)) :=
  ((State.Steady.refl s).after_setSock hk).after_answerNone

/-- Every internal access is steady. The rows named are those that change a socket or go through the fault flag. -/
theorem execInternal_steady (i : Instr) : NextMeets s.Steady (execInternal i s) := by
  cases i with
  | wrMr v => exact execWrMr_steady s v
  | wrSnIr n v => exact setSock_steady s fun hk => hk.clearIr v
  | wrSnMr n v | wrSnDipr0 n v | wrSnDipr1 n v | wrSnDipr2 n v | wrSnDipr3 n v | wrSnDport0 n v | wrSnDport1 n v
  | wrSnTxWr0 n v | wrSnTxWr1 n v | wrSnRxRd0 n v | wrSnRxRd1 n v => exact setSock_steady s (n := n) id
  | wrSnPort0 n v | wrSnPort1 n v => exact ((State.Steady.refl s).after_writePort n _).after_answerNone
  | cmdOpen n => exact execCmdOpen_steady s n
  | cmdListen n => exact execCmdListen_steady s n
  | cmdConnect n => exact execCmdConnect_steady s n
  | cmdDiscon n => exact execCmdDiscon_steady s n
  | cmdClose n => exact ((State.Steady.refl s).after_release n).after_answerNone
  | cmdSend n => exact execCmdSend_steady s n
  | cmdRecv n => exact execCmdRecv_steady s n
  | hrdDirect | hwrDirect | hrdMrInd | hwrMrInd | hrdIdmAr0 | hwrIdmAr0 | hrdIdmAr1 | hwrIdmAr1 | hrdIdmDr | hwrIdmDr
  | tick | reset => trivial
  | _ => exact (State.Steady.refl s).frame rfl rfl rfl

theorem memRead_steady (a : Word) : NextMeets s.Steady (memRead a s) := execInternal_steady s _

theorem memWrite_steady (a : Word) (v : Byte) : NextMeets s.Steady (memWrite a v s) := execInternal_steady s _

/-- Every instruction is steady. -/
theorem exec_steady (i : Instr) : NextMeets s.Steady (exec i s) := by
  cases i with
  | hrdDirect a => exact memRead_steady s a
  | hwrDirect a v => exact memWrite_steady s a v
  | hrdMrInd hi => exact memRead_steady s 0x0000#16
  | hwrMrInd hi v => exact memWrite_steady s 0x0000#16 v
  | hrdIdmAr0 | hwrIdmAr0 | hrdIdmAr1 | hwrIdmAr1 => exact (State.Steady.refl s).frame rfl rfl rfl
  | hrdIdmDr => exact (memRead_steady s _).afterAccess fun _ ht => ht.after_autoInc _ _
  | hwrIdmDr hi v => exact (memWrite_steady s _ v).afterAccess fun _ ht => ht.after_autoInc _ _
  | tick => exact (State.Steady.tickAll s).after_answerNone
  | reset => exact (State.Steady.powerUpReset s).after_answerNone
  | _ =>
    rw [exec_eq_execInternal rfl]
    exact execInternal_steady s _

end Instructions

theorem step_steady {s t : State} (h : step s = .next t) : s.Steady t := by
  obtain rfl | ⟨i, hi⟩ := step_next_cases h
  · exact .refl _
  · have htaken : s.Steady s.taken := (State.Steady.refl s).frame rfl rfl rfl
    exact htaken.trans ((exec_steady s.taken i).of_eq hi)

/-- Settles O58: no operation raises TIMEOUT, so a step is steady in that bit; and the bit is a clause of the
invariant, which holds of every reachable state. -/
theorem timeoutBitAlwaysReadsZero : Obligations.TimeoutBitAlwaysReadsZero := by
  refine ⟨fun s t hs h n => (step_steady h).timeout n (hs n), fun p s hr n => ?_⟩
  have hzero : (s.sock n).NoTimeout := (((State.inv_iff s).mp hr.inv).sockets n).timeout
  refine ⟨(s.sock n).ir.setWidth 8, rfl, ?_⟩
  rw [BitVec.getLsbD_setWidth, hzero, Bool.and_false]

/-- Settles O59: a step is steady in the fault flag and the open parameters, for raising keeps an earlier fault and
the resets touch neither. -/
theorem modelFaultIsSticky : Obligations.ModelFaultIsSticky :=
  fun _ _ h => ⟨(step_steady h).fault, (step_steady h).params⟩

end Sys2Proof.Machine
end

section
/-! SUPPORT. The two computed interrupt indications (spec/60_exceptions.md R273, R276): the global interrupt register
and the interrupt output, bit by bit in terms of the sockets' pending bits. -/

namespace Sys2Proof.Machine

theorem irPending_iff (k : Socket) : irPending k = true ↔ k.ir ≠ 0#5 := bne_iff_ne

/-- R273: bit `n` of IR is the pending bit of socket `n`. -/
theorem irValue_getLsbD (s : State) (n : SockId) : s.irValue.getLsbD n.val = irPending (s.sock n) := by
  change (0#4 ++ (BitVec.ofBool (irPending (s.sock 3)) ++ (BitVec.ofBool (irPending (s.sock 2)) ++
    (BitVec.ofBool (irPending (s.sock 1)) ++ BitVec.ofBool (irPending (s.sock 0)))))).getLsbD n.val = _
  match n with
  | 0 | 1 | 2 | 3 => simp only [BitVec.getLsbD_append]; simp

/-- R273: bits 7:4 of IR are 0. -/
theorem irValue_toNat_lt (s : State) : s.irValue.toNat < 16 := by
  unfold State.irValue
  rw [append_toNat, BitVec.toNat_ofNat, Nat.zero_mod, Nat.zero_mul, Nat.zero_add]
  exact BitVec.isLt _

/-- R142: 0xFF written to `Sn_IR` clears every bit. -/
theorem clearIr_all (ir : BitVec 5) : clearIr ir 0xFF#8 = 0#5 := by
  simp [clearIr]

/-- Settles O16: IR is read bit by bit from the sockets, and a socket whose Sn_IR is clear has no bit in it. -/
theorem globalInterruptRegisterShowsPendingSockets : Obligations.GlobalInterruptRegisterShowsPendingSockets := by
  refine fun s => ⟨⟨s.irValue, rfl, fun n => ?_, irValue_toNat_lt s⟩, fun v => rfl, fun n t ht => ?_⟩
  · rw [irValue_getLsbD, irPending_iff]
  · obtain rfl : answerNone (s.setSock n { (s.sock n) with ir := clearIr (s.sock n).ir 0xFF#8 }) = t := by
      cases ht; rfl
    rw [irValue_getLsbD, answerNone_sock, sock_setSock_same, clearIr_all]
    rfl

/-- R276: the mask 0x0F keeps the bits of the four sockets. -/
theorem lowNibble_getLsbD (b : Byte) (i : Nat) : (b &&& 0x0F#8).getLsbD i = (b.getLsbD i && decide (i < 4)) := by
  have hmask : (0x0F#8 : Byte) = (BitVec.allOnes 4).setWidth 8 := rfl
  rw [BitVec.getLsbD_and, hmask, BitVec.getLsbD_setWidth, BitVec.getLsbD_allOnes, ← Bool.decide_and]
  congr 2
  exact propext (by omega)

theorem lowNibble_ne_zero_iff (b : Byte) : b &&& 0x0F#8 ≠ 0x00#8 ↔ ∃ n : SockId, b.getLsbD n.val = true := by
  constructor
  · intro hne
    by_contra hnone
    refine hne (BitVec.eq_of_getLsbD_eq fun i _ => ?_)
    rw [lowNibble_getLsbD, BitVec.getLsbD_zero, Bool.and_eq_false_imp]
    intro hb
    exact decide_eq_false fun hi => hnone ⟨⟨i, hi⟩, hb⟩
  · rintro ⟨n, hn⟩ hzero
    have hbit := lowNibble_getLsbD b n.val
    rw [hzero, BitVec.getLsbD_zero, hn, decide_eq_true n.isLt] at hbit
    cases hbit

/-- Settles O17: the output is the low nibble of IR under the mask, and each bit of IR is its socket's pending bit. -/
theorem interruptOutputIsMaskedPendingLevel : Obligations.InterruptOutputIsMaskedPendingLevel := by
  refine ⟨fun s => ?_, rfl⟩
  rw [State.intOut, bne_iff_ne, lowNibble_ne_zero_iff]
  simp only [BitVec.getLsbD_and, Bool.and_eq_true, irValue_getLsbD, irPending_iff]

end Sys2Proof.Machine
end

section
/-! SUPPORT. The two resets (spec/70_reset_and_hazards.md R301 to R303): which requests closing the descriptors issues,
in which order, and what the reset fields leave of the state before. -/

namespace Sys2Proof.Machine

/-- The requests of closing every open descriptor, sockets 0 to 3 in order, most recent first (R301, R302). -/
def State.closings (s : State) : List NetRequest :=
  closing (s.sock 3).fd ++ closing (s.sock 2).fd ++ closing (s.sock 1).fd ++ closing (s.sock 0).fd

theorem closeAll_eq (s : State) : closeAll s = { s with netOut := s.closings ++ s.netOut } := by
  simp only [closeAll, closeFd_closing, State.closings, sock_e0, sock_e1, sock_e2, sock_e3, List.append_assoc]

theorem release_netOut_closing (n : SockId) (s : State) :
    (release n s).netOut = closing (s.sock n).fd ++ s.netOut := by
  rw [release_netOut, closeFd_closing]

/-- A released socket is reset anyway, so of a release only its request outlasts the reset. -/
theorem resetFields_release (n : SockId) (s : State) :
    resetFields (release n s) = { resetFields s with netOut := closing (s.sock n).fd ++ s.netOut } := by
  rw [release, closeFd_closing]
  rfl

/-- R302: a release leaves the other sockets, so the four of them close the descriptors that stood before the first. -/
theorem softReset_eq (s : State) : softReset s = { resetFields s with netOut := s.closings ++ s.netOut } := by
  simp (disch := decide) only [softReset, resetFields_release, release_netOut_closing, release_sock_other,
    State.closings, List.append_assoc]

/-- Settles O14: bit 7 selects the store or the soft reset, and the releases issue the closing requests in order. -/
theorem modeWriteStoresOrResets : Obligations.ModeWriteStoresOrResets := by
  refine fun s v => ⟨fun (hv : rstBit v = false) => ?stored, fun (hv : rstBit v = true) => ?reset⟩
  case stored =>
    rw [exec_wrMr, memWrite_mr, if_neg (Bool.eq_false_iff.mp hv)]
    rfl
  case reset =>
    rw [exec_wrMr, memWrite_mr, if_pos hv, softReset_eq]
    rfl

theorem exec_reset (s : State) : exec .reset s = .next (answerNone (powerUpReset s)) := rfl

/-- Settles O15: closing all descriptors adds the closing requests alone, and the rest is at its reset value. -/
theorem powerUpResetLeavesTheResetState : Obligations.PowerUpResetLeavesTheResetState := by
  intro s
  rw [exec_reset, powerUpReset, closeAll_eq]
  rfl

/-- Settles O56: four sockets as a reset leaves them, MR 0 and no written buffer byte meet the invariant. -/
theorem resetMeetsTheInvariant : Obligations.ResetMeetsTheInvariant :=
  fun p => reset_inv p

end Sys2Proof.Machine
end
